-- ==== Sys2Proof/Word.lean ====
section
/-! DEFINITION. The plain types of the WS210 model: bytes and station addresses. Current quantities, ages and
times are whole numbers the spec counts and compares (R1, R5, R102), so they are `Nat`. -/

namespace Sys2Proof

/-- A byte of the option record, of a local port request or of a reply (12, "Formats and Codes"). -/
abbrev Byte := BitVec 8

/-- A station address, 0..15 (R4, R119). -/
abbrev Address := BitVec 4

end Sys2Proof
end

