-- ==== Sys2Proof/Config.lean ====
section
/-! DEFINITION. What every WS210 has in common: the spec's fixed numbers, and the values the spec leaves open, as
opaque constants (nothing can evaluate them, so a claim holds whatever they are). -/

namespace Sys2Proof.Config

/-! Times on the share line are kept in tenths of the bit time (T/10). Every one the spec names is a whole or half
multiple of T (R63), so 5 is T/2; a length between two of them, which the filter and the windows must sort, can be
given as well (log 6). -/

/-- The idle gap, 6T (R73). -/
def idleGap : Nat := 60
/-- The join quiet, 24T (R73, R126); the wake detector's arming quiet is the same (R134). -/
def joinQuiet : Nat := 240
/-- The census window's quiet close, 40T (R129). -/
def censusQuiet : Nat := 400
/-- The unit of the retry backoff, 3T (R91). -/
def backoffStep : Nat := 30
/-- The shortest low or high the glitch filter passes, T/2 (R64). -/
def filterWidth : Nat := 5
/-- The delay of the glitch filter, T/2 (R64). -/
def filterDelay : Nat := 5
/-- The narrowest long mark, 3T/2 (R65). -/
def longWidth : Nat := 15
/-- The narrowest symbol error, 5T/2 (R65). -/
def errorWidth : Nat := 25
/-- A low of 6T is a break (R65). -/
def breakWidth : Nat := 60
/-- A contender's own break, 8T (R66). -/
def breakLength : Nat := 80
/-- The limit on a contender's low, 16T after its own break start (R75). -/
def breakLimit : Nat := 160
/-- The high lead between the break end and mark 0, 2T (R66). -/
def lead : Nat := 20
/-- The pitch of mark positions, 3T (R66). -/
def markPitch : Nat := 30
/-- A sender drives a short mark for 1T (R66). -/
def shortMark : Nat := 10
/-- A sender drives a long mark for 2T (R66). -/
def longMark : Nat := 20
/-- The window of a position, T from its start (R70). -/
def window : Nat := 10
/-- The number of marks of a frame (R66, R174). -/
def markCount : Nat := 31
/-- The number of marks of the header (R66, R174). -/
def headerMarks : Nat := 7
/-- The number of marks the check is taken over (R174, R175). -/
def checkedMarks : Nat := 23
/-- The ACK slot begins at break end + 95T (R67), which is the judgement point (R43, R70). -/
def ackStart : Nat := 950
/-- The VOID slot begins at break end + 98T (R67). -/
def voidStart : Nat := 980
/-- A slot is sampled at its start + 1.5T (R67). -/
def slotSample : Nat := 15
/-- An asserting station drives a slot for 2T (R67). -/
def slotDrive : Nat := 20
/-- The frame end, break end + 101T (R68). -/
def frameEnd : Nat := 1010
/-- A saturated line carries a frame every 115T (R68), in T. -/
def framePeriod : Nat := 115
/-- The check of timing validity asks for room for this many frames in R (R115). -/
def framesPerRenew : Nat := 16

/-- The settle count after a level change (R139). -/
def settleSamples : Nat := 8
/-- Valid samples in a row above the level + 1 that report an overdraw (R140). -/
def overdrawSamples : Nat := 4
/-- Valid low samples in a row that set the UNDER flag (R141). -/
def underSamples : Nat := 16
/-- Counted failures after which an intent's kind decides (R92, R93, R94). -/
def maxAttempts : Nat := 8
/-- Reception-error voids in a row that bring MUTE (R48, R155). -/
def maxVoidRun : Nat := 8
/-- Silence ages saturate here (R5, R6). -/
def maxAge : Nat := 65535
/-- Current quantities are at most this (R1). -/
def maxUnits : Nat := 255

/-- FREE VALUE (log 12): how many of the five bytes of a PROGRAM write stand in the one-time memory when a RESET
falls into it, by the model's own counter. R123 says only "the bytes written up to that moment". -/
opaque bytesWritten : Nat → Nat

/-- FREE VALUE (log 4): where one expiry of a lease tick falls among the others of the same tick, by the model's
own counter and the number of the others. The spec lets either of two events that fall together be taken
first. -/
opaque expiryPlace : Nat → Nat → Nat

end Sys2Proof.Config
end

