-- ==== Sys2Proof/Syntax.lean ====
section
/-! DEFINITION. The commands of the WS210: one constructor for each row of spec/opcode_table.json, with the
operands its rules give it. -/

namespace Sys2Proof

/-- One low on SHARE inside a frame, as it reaches the glitch filter: when it begins, counted from the break end, and
how long it lasts, both in T/10, with the filter's delay already in its place (R64 to R66, R70; log 6, 10). -/
structure Low where
  start : Nat
  width : Nat
  deriving DecidableEq, Repr

/-- What the pins show at the read event: the straps as tied, and whether SHARE and SEL are low (R118, R119, R64). -/
structure ReadPins where
  straps    : Address
  shareLow  : Bool
  selectLow : Bool
  deriving DecidableEq, Repr

/-- How far a frame on the line has come after its break end, in T/10, and its lows so far; at 101T it ends (log 34). -/
structure FrameReport where
  reached : Nat
  lows    : List Low
  deriving DecidableEq, Repr

/-- An event at the moment of an own frame's outcome that is taken behind that outcome, although an acceptance leaves it
no more due (R101; log 32, 33): the renew timer's expiry with its RENEW, or the self lease. -/
inductive Behind where
  | nothing | renewTimer | selfLease
  deriving DecidableEq, Repr

/-- How far the own frame has come, as a FrameReport says, and what is taken behind its outcome at the same moment. -/
structure OwnFrameReport where
  reached : Nat
  lows    : List Low
  behind  : Behind
  deriving DecidableEq, Repr

/-- An event at the moment of a sample that the station takes between the sample's overdraw and its report (R112, R154,
R159; log 33): the self lease, a CLEAR request, or the end of the mute wait. -/
inductive Between where
  | nothing | selfLease | clear | muteWait
  deriving DecidableEq, Repr

/-- What a sample finds: the units SENSE shows (R139), and what is taken at the same moment before an overdraw that it
reports. -/
structure Sensed where
  units   : Nat
  between : Between
  deriving DecidableEq, Repr

/-- The commands (events and local port requests), in the order of the table. -/
inductive Instr where
  /-- RESET: RESET is driven low or power is lost (R118). -/
  | reset
  /-- READ_EVENT: RESET is released, or power-on completes (R118). -/
  | readEvent (pins : ReadPins)
  /-- STATUS request (R163). -/
  | status
  /-- ENTRY request with its address byte (R164). -/
  | entry (address : Byte)
  /-- OPTIONS request (R165). -/
  | options
  /-- DEMAND request with the demand d (R166). -/
  | demand (d : Byte)
  /-- CLEAR request (R153, R167). -/
  | clear
  /-- SLEEP request (R132, R167). -/
  | sleep
  /-- RELEARN request (R168). -/
  | relearn
  /-- PROGRAM request with the five record bytes (R123, R169). -/
  | program (b1 b2 b3 b4 b5 : Byte)
  /-- PROGRAM_WRITE_COMPLETE: the write of the option record completes (R123). -/
  | programWriteComplete
  /-- TAKE request (R171). -/
  | take
  /-- MASK request with the mask's high and low byte (R172). -/
  | mask (high low : Byte)
  /-- BAD_REQUEST: a code byte that names no request (R162). -/
  | badRequest (code : Byte)
  /-- SELECT_RISES_EARLY: SEL rises before the last request byte (R162). -/
  | selectRisesEarly
  /-- BUS_WAKE: a filtered falling edge on SHARE in DORMANT (R134). -/
  | busWake
  /-- WAKE_DETECTOR_ARMED: the filtered line has been high for `high` more (R134). -/
  | wakeDetectorArmed (high : Nat)
  /-- JOIN_QUIET: the filtered line has been high for `high` more (R126). -/
  | joinQuiet (high : Nat)
  /-- BREAK_START: the filtered line has been high for `high` more, and the wait may have passed (R74). -/
  | breakStart (high : Nat)
  /-- BREAK_LIMIT: the line is still low, `low` after the own break start; the limit is 16T (R75). -/
  | breakLimit (low : Nat)
  /-- BREAK: a filtered low has lasted `low` so far; below 6T that tells of its falling edge alone (R65, R73). -/
  | breakPulse (low : Nat)
  /-- STRAY_LOW: a low of `width` ends outside any frame (R73). -/
  | strayLow (width : Nat)
  /-- LOST: the lows on the line so far, in which a long mark stands where a short one was sent (R77). -/
  | lost (lows : List Low)
  /-- HEARD_FRAME: a followed frame has come as far as reported; at 101T its VOID slot ends (R49, R69; log 34). -/
  | heardFrame (report : FrameReport)
  /-- OWN_FRAME_OUTCOME: the own frame has come as far as reported; at 101T it ends (R77 to R80; log 34). -/
  | ownFrameOutcome (report : OwnFrameReport)
  /-- QUIET_CLOSE: the filtered line has been high for `high` more in the census window (R129). -/
  | quietClose (high : Nat)
  /-- CAP: the census window's cap timer reaches R (R129). -/
  | cap
  /-- LAPSE of the replica at an address (R107). -/
  | lapse (address : Address)
  /-- REMOVAL of the replica at an address (R108). -/
  | removal (address : Address)
  /-- SELF_LEASE: the own silence age reaches P (R110). -/
  | selfLease
  /-- RENEW_TIMER_EXPIRY (R105). -/
  | renewTimerExpiry
  /-- SUPPRESSION_TIMER_EXPIRY (R37). -/
  | suppressionTimerExpiry
  /-- CENSUS_RETRY_TIMER_EXPIRY (R93). -/
  | censusRetryTimerExpiry
  /-- MUTE_WAIT_EXPIRY (R158). -/
  | muteWaitExpiry
  /-- RAMP_STEP (R138). -/
  | rampStep
  /-- SAMPLE (R139). -/
  | sample (sensed : Sensed)
  /-- DROOP_ASSERTION: SUPPLY-LOW as filtered becomes asserted (R143). -/
  | droopAssertion
  /-- DROOP_DEASSERTION: SUPPLY-LOW as filtered becomes deasserted (R144). -/
  | droopDeassertion
  /-- RECOVERY_TIMER_EXPIRY (R144). -/
  | recoveryTimerExpiry
  deriving DecidableEq, Repr

end Sys2Proof
end

