-- ==== Sys2Proof/Machine/State.lean ====
section
/-! DEFINITION. The state of one WS210 station as plain data: every register, flag, timer and collection the spec
names (INVENTORY.md lists each with its rule), the queue of waiting commands, and the state while RESET is held. -/

namespace Sys2Proof.Machine

/-- The eight station states (00, "Blocks"; 09 section 9.7). -/
inductive Mode where
  | unconfigured | start | learning | member | isolated | fault | mute | dormant
  deriving DecidableEq, Repr

/-- The recorded fault cause (R149). -/
inductive FaultCause where
  | none | overdraw | clash
  deriving DecidableEq, Repr

/-- The validity cause of the option record (R120). -/
inductive Cause where
  | ok | blank | check | budget | format | timing
  deriving DecidableEq, Repr

/-- The five bytes of an option record (R176). -/
structure Record where
  b1 : Byte
  b2 : Byte
  b3 : Byte
  b4 : Byte
  b5 : Byte
  deriving DecidableEq, Repr

/-- A blank record: 255 in all five bytes (R176). -/
def Record.blank : Record := ⟨255, 255, 255, 255, 255⟩

/-- The status of a roster entry (R5). -/
inductive EntryStatus where
  | live | lapsed
  deriving DecidableEq, Repr

/-- One entry of the roster, with the five fields of R5. -/
structure Entry where
  address : Address
  status  : EntryStatus
  holding : Nat
  demand  : Nat
  age     : Nat
  deriving DecidableEq, Repr

/-- The four frame kinds (R41). -/
inductive Kind where
  | yield | renew | claim | census
  deriving DecidableEq, Repr

/-- One intent of the outbox (R84); its kind is the place it stands in. `notice` is used by CLAIM intents and
`covered` by RENEW intents. -/
structure Intent where
  attempts : Nat
  notice   : Bool
  covered  : Bool
  deriving DecidableEq, Repr

/-- The intent in flight (R84), and whether a removal has cancelled it (R96). -/
structure Flight where
  kind      : Kind
  intent    : Intent
  cancelled : Bool
  deriving DecidableEq, Repr

/-- The outbox (R84): at most one intent of each kind, at most one in flight, and the retry backoff flag (R91). -/
structure Outbox where
  yield    : Option Intent
  renew    : Option Intent
  claim    : Option Intent
  census   : Option Intent
  inFlight : Option Flight
  backoff  : Bool
  deriving DecidableEq, Repr

/-- A mark (R66): a long mark stands for 1, a short mark for 0. -/
inductive Mark where
  | short | long
  deriving DecidableEq, Repr

/-- The fields a frame carries before its check (R40). -/
structure FrameFields where
  kind    : Kind
  sender  : Address
  holding : Nat
  demand  : Nat
  deriving DecidableEq, Repr

/-- The frozen fields of an own frame, with the check computed over them (R40, R72). -/
structure SentFrame where
  fields : FrameFields
  check  : Byte
  deriving DecidableEq, Repr

/-- A station's role toward a frame it follows (R69). -/
inductive Role where
  | sender | receiver | onlooker
  deriving DecidableEq, Repr

/-- A receiver's verdict (R43). -/
inductive Verdict where
  | ack | voidReception | voidClash | voidBudget
  deriving DecidableEq, Repr

/-- A sender's mismatch (R77, R78). -/
inductive Mismatch where
  | lost | clash | readback
  deriving DecidableEq, Repr

/-- The record of the frame in flight, from its break end, with the items of R72. Its position is read off `elapsed`,
the time since the break end in T/10 (FrameRecord.position). -/
structure FrameRecord where
  role        : Role
  elapsed     : Nat
  marks       : List Mark
  symbolError : Bool
  verdict     : Option Verdict
  ackSample   : Option Bool
  voidSample  : Option Bool
  sent        : Option SentFrame
  mismatch    : Option (Mismatch × Nat)
  deriving DecidableEq, Repr

/-- A break whose low still stands, before there is a record (R65, R72, R75): the role the station will have, and as a
contender its frozen fields and the time since its own break start, in T/10. -/
structure Opening where
  role    : Role
  sent    : Option SentFrame
  ownTime : Nat
  deriving DecidableEq, Repr

/-- A filtered low that is on the line now (R64, R42): one whose falling edge the filter did not see is not classified;
of any other, `receiver` says that the station was in a listening state at that edge and has been in one since. -/
inductive LineLow where
  | unseen
  | seen (receiver : Bool)
  deriving DecidableEq, Repr

/-- The renew timer (R104); a running timer holds the ms it has run. -/
inductive RenewTimer where
  | stopped | running (ms : Nat) | due
  deriving DecidableEq, Repr

/-- One WS210 station. Timers that can stand still are `Option Nat`: absent while stopped, else the ms run. -/
@[ext]
structure State where
  /-- RESET is held low, or power-on is not complete (07 section 7.1, R118). -/
  resetHeld : Bool
  /-- The one-time memory (R123). -/
  oneTime : Record
  /-- The PROGRAM write in progress (R123). -/
  writing : Option Record
  /-- The written flag (R123). -/
  written : Bool
  /-- The station address (R119). -/
  address : Address
  /-- The option record as read (R120). -/
  record : Record
  /-- Its validity cause (R120). -/
  cause : Cause
  /-- The station state. -/
  mode : Mode
  /-- The fault cause (R149). -/
  faultCause : FaultCause
  /-- The void run (R48). -/
  voidRun : Nat
  /-- The roster's entries for peers, by rising address (R4, R9). -/
  replicas : List Entry
  /-- The own holding (R7). -/
  holding : Nat
  /-- The own silence age (R6). -/
  ownAge : Nat
  /-- The requested demand (R24). -/
  requested : Nat
  /-- The own target (R30). -/
  target : Nat
  /-- Claim suppression, in force while present, with its timer (R37). -/
  suppression : Option Nat
  /-- The outbox (R84). -/
  outbox : Outbox
  /-- The census retry timer (R93). -/
  censusRetry : Option Nat
  /-- The break that has been classed while its low still stands (R65, R75). -/
  opening : Option Opening
  /-- The record of the frame in flight (R72). -/
  frame : Option FrameRecord
  /-- The synchronised flag (R73). -/
  synchronised : Bool
  /-- START's join condition (R126). -/
  joinCondition : Bool
  /-- How long the filtered line has been high without interruption, in T/10 (R73, R126, R129, R134). -/
  highTime : Nat
  /-- The filtered low on the line now (R42, R64, R82). -/
  lineLow : Option LineLow
  /-- The wake detector is armed (R134). -/
  wakeArmed : Bool
  /-- The renew timer (R104). -/
  renewTimer : RenewTimer
  /-- The census window's cap timer, present while the window is open (R128, R129). -/
  windowCap : Option Nat
  /-- The mute wait (R156). -/
  muteWait : Option Nat
  /-- The output level (R136). -/
  level : Nat
  /-- The ramp target (R136). -/
  rampTarget : Nat
  /-- The settle count (R139). -/
  settle : Nat
  /-- The overdraw run (R140). -/
  overdrawRun : Nat
  /-- The under run (R141). -/
  underRun : Nat
  /-- The UNDER flag (R141). -/
  under : Bool
  /-- SUPPLY-LOW as filtered: asserted (R142; log 40). -/
  supplyLow : Bool
  /-- Droop hold (R143). -/
  droopHold : Bool
  /-- The droop recovery timer (R144). -/
  recovery : Option Nat
  /-- The event latch, one bit for each kind in mask order (R170, R179). -/
  latch : BitVec 10
  /-- The event mask, in the same order (R172, R179). -/
  mask : BitVec 10
  /-- A transaction whose select fell before the read event is open still, and ignored (R118, R162). -/
  straddling : Bool
  /-- The reply of the last request taken (R161). -/
  reply : List Byte
  /-- The model's own counter behind its free values (log 4, 12). -/
  fresh : Nat
  /-- The commands that wait, first in, first out. -/
  pending : List Instr
  deriving DecidableEq, Repr

/-- No command faults: the spec describes every error as a state, a status byte or a VOID (R160). -/
inductive Fault where
  deriving DecidableEq, Repr

/-- Why a command has no meaning. -/
inductive Refusal where
  /-- Raised by an arm of `exec` whose command is not modelled yet (none is). Safe: the machine stops. -/
  | notModelled (mnemonic : String)
  deriving DecidableEq, Repr

/-- An empty outbox (R100). -/
def Outbox.empty : Outbox := ⟨none, none, none, none, none, false⟩

/-- The station while RESET is held low, before the read event of R118: the power-on values of every block,
nothing in progress, a blank one-time memory (log 1, 2, 13, 17). DESIGN CHOICE (log 40): the filtered SUPPLY-LOW state,
which no rule gives while the droop monitor is off, is deasserted here, and so it is in UNCONFIGURED. -/
def State.reset : State where
  resetHeld := true
  oneTime := Record.blank
  writing := none
  written := false
  address := 0
  record := Record.blank
  cause := .blank
  mode := .unconfigured
  faultCause := .none
  voidRun := 0
  replicas := []
  holding := 0
  ownAge := 0
  requested := 0
  target := 0
  suppression := none
  outbox := Outbox.empty
  censusRetry := none
  opening := none
  frame := none
  synchronised := false
  joinCondition := false
  highTime := 0
  lineLow := none
  wakeArmed := false
  renewTimer := .stopped
  windowCap := none
  muteWait := none
  level := 0
  rampTarget := 0
  settle := 0
  overdrawRun := 0
  underRun := 0
  under := false
  supplyLow := false
  droopHold := false
  recovery := none
  latch := 0
  mask := 0
  straddling := false
  reply := []
  fresh := 0
  pending := []

end Sys2Proof.Machine
end

