-- ==== Sys2Proof/Machine/Operands.lean ====
section
/-! DEFINITION. What the operands of the commands mean: the classes of lows, the reading of marks and slots from
the lows of a frame, the layout of a frame and its check, and the option record with its check (04, 12). -/

namespace Sys2Proof.Machine

/-! ### Pulse classes -/

/-- The four classes of a filtered low (R65). -/
inductive PulseClass where
  | shortMark | longMark | symbolError | breakLow
  deriving DecidableEq, Repr

/-- The class of a low of width `w` in T/10; a low shorter than T/2 is removed by the filter (R64, R65). -/
def classify (w : Nat) : Option PulseClass :=
  if w < Config.filterWidth then none
  else if w < Config.longWidth then some .shortMark
  else if w < Config.errorWidth then some .longMark
  else if w < Config.breakWidth then some .symbolError
  else some .breakLow

/-- The glitch filter over lows in order (R64), `out` being the low that its output stands in: while the output is high
a low shorter than T/2 is removed; while it is low a high shorter than T/2 is bridged, so the low goes on through it.
DESIGN CHOICE (log 35): where both could be done, a low shorter than T/2 behind a low and a high shorter than T/2, R64 gives
no order, and the filter bridges. -/
def filterFrom : Option Low → List Low → List Low
  | none, [] => []
  | some out, [] => [out]
  | none, l :: ls => if l.width < Config.filterWidth then filterFrom none ls else filterFrom (some l) ls
  | some out, l :: ls =>
    if l.start < out.start + out.width + Config.filterWidth then
      filterFrom (some ⟨out.start, max out.width (l.start + l.width - out.start)⟩) ls
    else if l.width < Config.filterWidth then out :: filterFrom none ls
    else out :: filterFrom (some l) ls

/-- The filtered line of a frame: what the glitch filter makes of the lows on SHARE (R64). -/
def filterLows (lows : List Low) : List Low := filterFrom none lows

/-! ### Bits -/

/-- The value of a list of bits, the most significant first (R174). -/
def bitsValue (bits : List Bool) : Nat :=
  bits.foldl (fun v b => 2 * v + b.toNat) 0

/-- The `w` low bits of `n`, the most significant first (R174). -/
def natBits : Nat → Nat → List Bool
  | 0, _ => []
  | w + 1, n => n.testBit w :: natBits w n

/-- One step of the CRC-8 over the next input bit (R175): 7 is x^8 + x^2 + x + 1 without its x^8 term. -/
def crcStep (value : Byte) (bit : Bool) : Byte :=
  if value.msb != bit then (value <<< 1) ^^^ 7 else value <<< 1

/-- The CRC-8 of a sequence of bits (R175). -/
def crc8 (bits : List Bool) : Byte := bits.foldl crcStep 0

/-- The bits of a byte, from bit 7 to bit 0. -/
def byteBits (b : Byte) : List Bool := natBits 8 b.toNat

/-! ### The layout of a frame -/

/-- The kind codes of R174, the mark sent first leftmost. -/
def Kind.bits : Kind → List Bool
  | .yield  => [true, true, true]
  | .renew  => [true, true, false]
  | .claim  => [true, false, true]
  | .census => [false, true, true]

/-- The kind a code names; four codes are unassigned (R41, R174). -/
def kindOfBits : List Bool → Option Kind
  | [true, true, true]  => some .yield
  | [true, true, false] => some .renew
  | [true, false, true] => some .claim
  | [false, true, true] => some .census
  | _ => none

/-- The arbitration rank of a kind (R41). -/
def Kind.rank : Kind → Nat
  | .yield => 1 | .renew => 2 | .claim => 3 | .census => 4

/-- The 23 bits the check is taken over (R174, R175). -/
def FrameFields.bits (f : FrameFields) : List Bool :=
  f.kind.bits ++ natBits 4 f.sender.toNat ++ natBits 8 f.holding ++ natBits 8 f.demand

/-- A mark carries a bit: long is 1, short is 0 (R66). -/
def Mark.ofBit : Bool → Mark
  | true => .long
  | false => .short

def Mark.bit : Mark → Bool
  | .long => true
  | .short => false

/-- The frozen fields of an own frame with their check (R40, R175). -/
def sealFrame (f : FrameFields) : SentFrame := ⟨f, crc8 f.bits⟩

/-- The 31 marks of an own frame, in the order they are sent (R66, R174). -/
def SentFrame.marks (f : SentFrame) : List Mark :=
  (f.fields.bits ++ byteBits f.check).map Mark.ofBit

/-! ### Reading the positions of a frame -/

/-- What a position of a frame was read as (R70). -/
inductive PositionRead where
  | mark (m : Mark) | symbolError
  deriving DecidableEq, Repr

/-- The opening of the window of position `k`, from the break end, in T/10 (R66, R70). -/
def windowOpening (k : Nat) : Nat := Config.lead + Config.markPitch * k

/-- The low begins in the span of position `k`; the lead counts at position 0 (R70). -/
def inSpan (k : Nat) (l : Low) : Bool :=
  decide (l.start < windowOpening (k + 1)) && (k == 0 || decide (windowOpening k ≤ l.start))

/-- The low begins within the window of position `k`: at its opening, not at its closing (R70). -/
def inWindow (k : Nat) (l : Low) : Bool :=
  decide (windowOpening k ≤ l.start) && decide (l.start < windowOpening k + Config.window)

/-- What one low that begins in its position's window reads as (R70). -/
def readLow (l : Low) : PositionRead :=
  match classify l.width with
  | some .shortMark => .mark .short
  | some .longMark => .mark .long
  | _ => .symbolError

/-- Position `k` read from the filtered lows of the frame (R70): one low, begun in the window, of the width of a mark. -/
def readPosition (lows : List Low) (k : Nat) : PositionRead :=
  match lows.filter (inSpan k) with
  | [l] => if inWindow k l then readLow l else .symbolError
  | _ => .symbolError

/-- The 31 positions read from the lows of the frame. -/
def readPositions (lows : List Low) : List PositionRead :=
  (List.range Config.markCount).map (readPosition lows)

/-- The moment at which the class of a low that begins in the window of position `k` is known to its station: a mark's at
its rising edge; a low that is wider than any mark once it has lasted 5T/2, but before the next position begins (R65, R77;
log 34). -/
def classKnown (k : Nat) (l : Low) : Nat :=
  if l.width < Config.errorWidth then l.start + l.width
  else min (l.start + Config.errorWidth) (windowOpening (k + 1))

/-- What position `k` is read as in the course of time, each reading with the moment it is known (R70, R77): a low that
begins in the window when its class is known, a missing low when the window closes, a low outside the window and a second
low at their falling edges. -/
def readings (lows : List Low) (k : Nat) : List (Nat × PositionRead) :=
  let closing := windowOpening k + Config.window
  match lows.filter (inSpan k) with
  | [] => [(closing, .symbolError)]
  | l :: later =>
    (if inWindow k l then (classKnown k l, readLow l) else (min l.start closing, .symbolError))
      :: later.map fun m => (m.start, .symbolError)

/-- What position `k` is known to be `now` (R70, R72, R77): once its span is over it is as read in the end, before that as
last read, if it is known at all. -/
def knownRead (now : Nat) (lows : List Low) (k : Nat) : Option PositionRead :=
  if windowOpening (k + 1) ≤ now then some (readPosition lows k)
  else ((readings lows k).filter fun r => decide (r.1 ≤ now)).getLast?.map Prod.snd

/-- The positions known so far, as read, up to the first that is not known (R70, R72). -/
def readsSoFar (now : Nat) (lows : List Low) : List PositionRead :=
  (((List.range Config.markCount).map (knownRead now lows)).takeWhile Option.isSome).filterMap id

/-- The filtered line is low at time `t` after the break end. DESIGN CHOICE (log 31): at the very moment of an edge,
where R67 does not say what a slot's sample sees, a falling edge counts as low and a rising edge as high. -/
def lineLowAt (lows : List Low) (t : Nat) : Bool :=
  lows.any fun l => decide (l.start ≤ t) && decide (t < l.start + l.width)

/-- The line at the ACK slot's sample point (R67; log 31). -/
def ackSeen (lows : List Low) : Bool := lineLowAt lows (Config.ackStart + Config.slotSample)

/-- The line at the VOID slot's sample point (R67; log 31). -/
def voidSeen (lows : List Low) : Bool := lineLowAt lows (Config.voidStart + Config.slotSample)

/-- One of the lows lasts 6T (R65). -/
def breakAmong (lows : List Low) : Bool :=
  lows.any fun l => classify l.width == some .breakLow

/-- The low that has been classed a break by `now` and before the frame's end: a break inside the frame (R71). One
classed at the frame's end exactly is taken after that end. -/
def breakInside (now : Nat) (lows : List Low) : Option Low :=
  lows.find? fun l => decide (Config.breakWidth ≤ l.width) && decide (l.start + Config.breakWidth ≤ now)
    && decide (l.start + Config.breakWidth < Config.frameEnd)

/-- The last rising edge of the lows by `now`; the break end where there is none (R73). -/
def lastRise (now : Nat) (lows : List Low) : Nat :=
  (lows.filter fun l => decide (l.start + l.width ≤ now)).foldl (fun t l => max t (l.start + l.width)) 0

/-- The marks among the positions read (R72). -/
def marksRead (reads : List PositionRead) : List Mark :=
  reads.filterMap fun
    | .mark m => some m
    | .symbolError => none

/-- A position read as a symbol error (R72). -/
def symbolErrorIn (reads : List PositionRead) : Bool := reads.contains .symbolError

/-- The fields that 31 marks carry; `none` where the check does not agree or the kind is unassigned (R40, R44). -/
def decodeMarks (marks : List Mark) : Option FrameFields :=
  let bits := marks.map Mark.bit
  if crc8 (bits.take Config.checkedMarks) ≠ BitVec.ofNat 8 (bitsValue (bits.drop Config.checkedMarks)) then none
  else
    match kindOfBits (bits.take 3) with
    | none => none
    | some k =>
      some
        { kind := k
          sender := BitVec.ofNat 4 (bitsValue ((bits.drop 3).take 4))
          holding := bitsValue ((bits.drop 7).take 8)
          demand := bitsValue ((bits.drop 15).take 8) }

/-- The fields of a correctly received frame; `none` is a reception error (R44): a symbol error, a check that does
not agree, or an unassigned kind. -/
def decodeFrame (reads : List PositionRead) : Option FrameFields :=
  if symbolErrorIn reads then none else decodeMarks (marksRead reads)

/-! ### Sending and reading back -/

/-- The kind of a mismatch at position `k`, by what was sent and what was read (R77, R78). -/
def mismatchAt (k : Nat) (sent : Mark) (read : PositionRead) : Mismatch :=
  if sent = .short ∧ read = .mark .long then
    if k < Config.headerMarks then .lost else .clash
  else .readback

/-- The first position, counted from `k`, at which the mark read is not the mark sent (R77, R78). -/
def firstMismatch : Nat → List Mark → List PositionRead → Option (Mismatch × Nat)
  | k, m :: ms, r :: rs =>
    if r = .mark m then firstMismatch (k + 1) ms rs else some (mismatchAt k m r, k)
  | _, _, _ => none

/-- The first reading of position `k` that is not the mark `m` sent there, with the moment it is known (R77). -/
def misreading (lows : List Low) (k : Nat) (m : Mark) : Option (Nat × PositionRead) :=
  (readings lows k).find? fun r => decide (r.2 ≠ .mark m)

/-- The moment at which the first mismatch with the marks sent is known (R77, R78). -/
def mismatchMoment (sent : List Mark) (lows : List Low) : Option Nat :=
  ((sent.mapIdx fun k m => (misreading lows k m).map Prod.fst).filterMap id).min?

/-- What a sender knows by `now` of its own positions (R77): a reading that is not the mark sent, or the mark sent. -/
def readBack (sent : List Mark) (now : Nat) (lows : List Low) : List PositionRead :=
  sent.mapIdx fun k m =>
    match misreading lows k m with
    | some r => if r.1 ≤ now then r.2 else .mark m
    | none => .mark m

/-- The mismatch that a sender of the marks `sent` has found by `now`: the first in time (R77, R78). -/
def mismatchFound (sent : List Mark) (now : Nat) (lows : List Low) : Option (Mismatch × Nat) :=
  match mismatchMoment sent lows with
  | some moment => if moment ≤ now then firstMismatch 0 sent (readBack sent moment lows) else none
  | none => none

/-- The outcomes a sender hands to the outbox (R51, R80); a readback error is handed on as voided. -/
inductive FrameOutcome where
  | accepted | voided | unheard | lost | clash
  deriving DecidableEq, Repr

/-- The outcome at the frame end: the first line of R80 that applies. -/
def outcomeOf (lone : Bool) (mismatch : Option Mismatch) (ack void : Bool) : FrameOutcome :=
  match mismatch with
  | some .clash => .clash
  | some .lost => .lost
  | some .readback => .voided
  | none => if void then .voided else if ack then .accepted else if lone then .accepted else .unheard

/-- For how long a sender drives a mark (R66), in T/10. -/
def Mark.drive : Mark → Nat
  | .short => Config.shortMark
  | .long => Config.longMark

/-- The sender of a frame drives one of its marks at the time `t` after the break end (R66, R83). -/
def SentFrame.drivesMark (f : SentFrame) (t : Nat) : Bool :=
  decide (Config.lead ≤ t) &&
    match f.marks[(t - Config.lead) / Config.markPitch]? with
    | some m => decide ((t - Config.lead) % Config.markPitch < m.drive)
    | none => false

/-- The lows a sent frame makes on the filtered line (R66, R70): each mark begins half a T after its position. -/
def markLows : Nat → List Mark → List Low
  | _, [] => []
  | k, m :: ms => ⟨windowOpening k + Config.filterDelay, m.drive⟩ :: markLows (k + 1) ms

/-- The low of an asserted ACK slot on the filtered line (R67). -/
def ackLow : Low := ⟨Config.ackStart + Config.filterDelay, Config.slotDrive⟩

/-- The low of an asserted VOID slot on the filtered line (R67). -/
def voidLow : Low := ⟨Config.voidStart + Config.filterDelay, Config.slotDrive⟩

/-- The lows of a whole frame on the filtered line, with the slots as asserted. -/
def SentFrame.lows (f : SentFrame) (ack void : Bool) : List Low :=
  markLows 0 f.marks ++ (if ack then [ackLow] else []) ++ (if void then [voidLow] else [])

/-! ### The option record -/

/-- The unit code, bits 7 and 6 of byte 3 (R176). -/
def Record.unitCode (r : Record) : Nat := r.b3.toNat / 64
/-- The bit-time code, bits 5 and 4 of byte 3 (R176). -/
def Record.bitTimeCode (r : Record) : Nat := r.b3.toNat / 16 % 4
/-- The lease code, bits 3 and 2 of byte 3 (R176). -/
def Record.leaseCode (r : Record) : Nat := r.b3.toNat / 4 % 4

/-- The unit size in mA (R1). -/
def unitMilliamps : Nat → Nat
  | 0 => 5 | 1 => 10 | 2 => 25 | _ => 50
/-- The bit time T in microseconds (R63). -/
def bitTimeMicros : Nat → Nat
  | 0 => 10 | 1 => 20 | 2 => 50 | _ => 100
/-- The lease period P in ms (R103). -/
def leaseMillis : Nat → Nat
  | 0 => 256 | 1 => 512 | 2 => 1024 | _ => 2048

/-- The budget B (R2). -/
def Record.budget (r : Record) : Nat := r.b1.toNat
/-- The ceiling C as applied: the byte or B, the smaller (R3). -/
def Record.ceiling (r : Record) : Nat := min r.b2.toNat r.b1.toNat
/-- The unit size in mA (R1). -/
def Record.unit (r : Record) : Nat := unitMilliamps r.unitCode
/-- The bit time T in microseconds (R63). -/
def Record.bitTime (r : Record) : Nat := bitTimeMicros r.bitTimeCode
/-- The lease period P in ms (R103). -/
def Record.lease (r : Record) : Nat := leaseMillis r.leaseCode
/-- The renew interval R, a quarter of P (R103). -/
def Record.renew (r : Record) : Nat := r.lease / 4
/-- The holdover H, half of P (R103). -/
def Record.holdover (r : Record) : Nat := r.lease / 2
/-- The LONE option, bit 7 of byte 4 (R176). -/
def Record.lone (r : Record) : Bool := r.b4.getLsbD 7
/-- The DROOP ENABLE option, bit 6 of byte 4 (R176). -/
def Record.droopEnable (r : Record) : Bool := r.b4.getLsbD 6
/-- The BUS WAKE option, bit 5 of byte 4 (R176). -/
def Record.busWake (r : Record) : Bool := r.b4.getLsbD 5

/-- A spare bit of byte 3 or byte 4 is set (R120, R176). -/
def Record.spareSet (r : Record) : Bool :=
  decide (r.b3.toNat % 4 ≠ 0) || decide (r.b4.toNat % 32 ≠ 0)

/-- The timing check: R is at least 16 frames of 115T (R115), both in microseconds. -/
def Record.timingValid (r : Record) : Bool :=
  decide (Config.framesPerRenew * Config.framePeriod * r.bitTime ≤ 1000 * r.renew)

/-- The CRC-8 of bytes 1 to 4 (R175). -/
def Record.checkOf (r : Record) : Byte :=
  crc8 (byteBits r.b1 ++ byteBits r.b2 ++ byteBits r.b3 ++ byteBits r.b4)

/-- The validity cause of a record as read: the first line of R120 that applies. -/
def Record.judge (r : Record) : Cause :=
  if r = Record.blank then .blank
  else if r.b5 ≠ r.checkOf then .check
  else if r.b1 = 0 ∨ r.b2 = 0 then .budget
  else if r.spareSet then .format
  else if !r.timingValid then .timing
  else .ok

/-- The five bytes in order. -/
def Record.bytes (r : Record) : List Byte := [r.b1, r.b2, r.b3, r.b4, r.b5]

/-- The memory after the first `n` bytes of a write: a byte not yet written reads 255 (R123). -/
def Record.partly (r : Record) (n : Nat) : Record where
  b1 := if 0 < n then r.b1 else 255
  b2 := if 1 < n then r.b2 else 255
  b3 := if 2 < n then r.b3 else 255
  b4 := if 3 < n then r.b4 else 255
  b5 := if 4 < n then r.b5 else 255

/-! ### Codes of the local port -/

/-- The ten event kinds (R170). -/
inductive EventKind where
  | fault | muted | isolated | droop | restarted | output | abandoned | overcommit | under | roster
  deriving DecidableEq, Repr

/-- The mask bit of an event kind (R179). -/
def EventKind.bit : EventKind → Nat
  | .fault => 0 | .muted => 1 | .isolated => 2 | .droop => 3 | .restarted => 4
  | .output => 5 | .abandoned => 6 | .overcommit => 7 | .under => 8 | .roster => 9

/-- The event code of a kind, which is also its priority (R179). -/
def EventKind.code (k : EventKind) : Nat := k.bit + 1

/-- The kinds from the highest priority to the lowest (R170). -/
def EventKind.all : List EventKind :=
  [.fault, .muted, .isolated, .droop, .restarted, .output, .abandoned, .overcommit, .under, .roster]

/-- A kind's place in the latch and the mask (R179). -/
def EventKind.word (k : EventKind) : BitVec 10 := BitVec.twoPow 10 k.bit

/-- The station state codes of STATUS (R178). -/
def Mode.code : Mode → Nat
  | .unconfigured => 0 | .start => 1 | .learning => 2 | .member => 3
  | .isolated => 4 | .fault => 5 | .mute => 6 | .dormant => 7

/-- The fault cause codes of STATUS (R178). -/
def FaultCause.code : FaultCause → Nat
  | .none => 0 | .overdraw => 1 | .clash => 2

/-- The validity cause codes of OPTIONS (R176). -/
def Cause.code : Cause → Nat
  | .ok => 0 | .blank => 1 | .check => 2 | .budget => 3 | .format => 4 | .timing => 5

/-- The status codes of ENTRY's data (R178). -/
def EntryStatus.code : EntryStatus → Nat
  | .live => 1 | .lapsed => 2

/-- The status byte of a reply (R161, R177). -/
inductive PortStatus where
  | ok | clipped | refused | badRequest
  deriving DecidableEq, Repr

/-- The codes of the status byte (R177). -/
def PortStatus.byte : PortStatus → Byte
  | .ok => 1 | .clipped => 2 | .refused => 3 | .badRequest => 4

/-- A value as a reply's data byte. -/
def dataByte (n : Nat) : Byte := BitVec.ofNat 8 n

/-- A value as two data bytes, the most significant first (R178). -/
def dataWord (n : Nat) : List Byte := [dataByte (n / 256), dataByte n]

/-- The code byte names a request: 1 to 10 (R177). -/
def codeNamesRequest (code : Byte) : Bool :=
  decide (1 ≤ code.toNat) && decide (code.toNat ≤ 10)

end Sys2Proof.Machine
end

