-- ==== Sys2Proof/Decode.lean ====
section
/-! DEFINITION. The words of the opcode table, and the bytes of the local port. The table gives no row any bits, so
no word spells a command (log 18). The bytes of a local port transaction do spell requests (R161, R177). -/

namespace Sys2Proof

/-- The command a table word spells: no row of the table gives bits (log 18). -/
def decodeTableWord (_nbits _w : Nat) : Option Instr := none

/-- What a local port transaction asks for, by the request bytes shifted in before SEL rises (R161, R162, R177): the
code byte, then its arguments. Bytes after the last request byte are not read; too few bytes are a select that
rises early; a code that names no request is taken at once. -/
def requestOfBytes : List Byte → Instr
  | [] => .selectRisesEarly
  | code :: args =>
    match code.toNat, args with
    | 1, _ => .status
    | 2, a :: _ => .entry a
    | 3, d :: _ => .demand d
    | 4, _ => .take
    | 5, high :: low :: _ => .mask high low
    | 6, _ => .clear
    | 7, _ => .sleep
    | 8, _ => .relearn
    | 9, _ => .options
    | 10, b1 :: b2 :: b3 :: b4 :: b5 :: _ => .program b1 b2 b3 b4 b5
    | _, _ => if Machine.codeNamesRequest code then .selectRisesEarly else .badRequest code

/-- The bytes that bits on SDI make, each most significant bit first (R161, R180); a byte of which fewer than eight
bits were shifted in is dropped (R162). -/
def bytesOfBits : List Bool → List Byte
  | a :: b :: c :: d :: e :: f :: g :: h :: rest =>
    BitVec.ofNat 8 (Machine.bitsValue [a, b, c, d, e, f, g, h]) :: bytesOfBits rest
  | _ => []

/-- What a local port transaction asks for, by the bits shifted in on SDI before SEL rises (R161, R162). -/
def requestOfBits (bits : List Bool) : Instr := requestOfBytes (bytesOfBits bits)

/-- The request bytes of a local port request (R177); other commands have none. -/
def bytesOfRequest : Instr → Option (List Byte)
  | .status => some [1]
  | .entry a => some [2, a]
  | .demand d => some [3, d]
  | .take => some [4]
  | .mask high low => some [5, high, low]
  | .clear => some [6]
  | .sleep => some [7]
  | .relearn => some [8]
  | .options => some [9]
  | .program b1 b2 b3 b4 b5 => some [10, b1, b2, b3, b4, b5]
  | .badRequest code => if Machine.codeNamesRequest code then none else some [code]
  | .selectRisesEarly => some []
  | .reset => none
  | .readEvent _ => none
  | .programWriteComplete => none
  | .busWake => none
  | .wakeDetectorArmed _ => none
  | .joinQuiet _ => none
  | .breakStart _ => none
  | .breakLimit _ => none
  | .breakPulse _ => none
  | .strayLow _ => none
  | .lost _ => none
  | .heardFrame _ => none
  | .ownFrameOutcome _ => none
  | .quietClose _ => none
  | .cap => none
  | .lapse _ => none
  | .removal _ => none
  | .selfLease => none
  | .renewTimerExpiry => none
  | .suppressionTimerExpiry => none
  | .censusRetryTimerExpiry => none
  | .muteWaitExpiry => none
  | .rampStep => none
  | .sample _ => none
  | .droopAssertion => none
  | .droopDeassertion => none
  | .recoveryTimerExpiry => none

end Sys2Proof
end

