-- ==== Sys2Proof/Machine/Roster.lean ====
section
/-! DEFINITION. The roster as a table keyed by station address, and the fair-share reckoning over it: functions of
a list of entries and a budget alone (01, 02 section 2.2). -/

namespace Sys2Proof.Machine

/-! ### The table (R4) -/

/-- The addresses rise strictly: at most one entry for each address, in ascending order (R4). -/
def rising : List Entry → Bool
  | x :: y :: rest => decide (x.address < y.address) && rising (y :: rest)
  | _ => true

/-- The entry at an address (R4). -/
def findEntry (a : Address) : List Entry → Option Entry
  | [] => none
  | x :: xs => if x.address = a then some x else findEntry a xs

/-- Write an entry at its address: in place of the one there, or at its place in the order (R4). -/
def putEntry (e : Entry) : List Entry → List Entry
  | [] => [e]
  | x :: xs =>
    if e.address < x.address then e :: x :: xs
    else if e.address = x.address then e :: xs
    else x :: putEntry e xs

/-- Remove the entry at an address (R14). -/
def dropEntry (a : Address) (l : List Entry) : List Entry := l.filter (fun e => decide (e.address ≠ a))

/-- The sum of the holdings of the entries (R16). -/
def sumHoldings (l : List Entry) : Nat := (l.map Entry.holding).sum

/-! ### The fair-share reckoning (R27 to R29) -/

/-- The members of W: LIVE entries whose demand is above 0, in the order of the roster (R27). -/
def wanting (l : List Entry) : List Entry :=
  l.filter fun e => decide (e.status = .live) && decide (0 < e.demand)

/-- The holdings of the LAPSED entries (R27). -/
def lapsedHoldings (l : List Entry) : Nat :=
  sumHoldings (l.filter fun e => decide (e.status = .lapsed))

/-- The reduced budget B′ (R27). -/
def reducedBudget (budget : Nat) (l : List Entry) : Int := (budget : Int) - lapsedHoldings l

/-- The sum of the first shares of W at a level: the smaller of each demand and the level (R28). -/
def firstShares (level : Nat) (w : List Entry) : Nat := (w.map fun e => min e.demand level).sum

/-- The largest level from 0 to `n` at which the first shares fit into `b` (R28). -/
def levelUpTo (b : Nat) (w : List Entry) : Nat → Nat
  | 0 => 0
  | n + 1 => if firstShares (n + 1) w ≤ b then n + 1 else levelUpTo b w n

/-- The level L: the largest in 0..255 whose first shares do not exceed `b` (R28). -/
def fairLevel (b : Nat) (w : List Entry) : Nat := levelUpTo b w Config.maxUnits

/-- The targets of the members of W at level L, with the remainder dealt one unit each to the members whose demand
exceeds L, in ascending address order (R29). -/
def dealTargets (level : Nat) : Nat → List Entry → List (Address × Nat)
  | _, [] => []
  | remainder, e :: es =>
    if level < e.demand then
      if 0 < remainder then (e.address, level + 1) :: dealTargets level (remainder - 1) es
      else (e.address, level) :: dealTargets level 0 es
    else (e.address, e.demand) :: dealTargets level remainder es

/-- The targets of the members of W; none has one when B′ is 0 or below (R27 to R29). -/
def fairTargets (budget : Nat) (l : List Entry) : List (Address × Nat) :=
  if reducedBudget budget l ≤ 0 then []
  else
    let b := (reducedBudget budget l).toNat
    let level := fairLevel b (wanting l)
    dealTargets level (b - firstShares level (wanting l)) (wanting l)

/-- The target at an address; an entry outside W has 0 (R29). -/
def targetAt (budget : Nat) (l : List Entry) (a : Address) : Nat :=
  match (fairTargets budget l).find? (fun p => decide (p.1 = a)) with
  | some p => p.2
  | none => 0

end Sys2Proof.Machine
end

