-- ==== Sys2Proof/Machine/Flags.lean ====
section
/-! DEFINITION. What is read off the state rather than stored: the values of the record, the roster with the own
entry, the derived quantities and conditions of the rules, the pins, and which expiry is due. -/

namespace Sys2Proof.Machine

/-! ### The values taken from the record (R121) -/

def State.budget (s : State) : Nat := s.record.budget
def State.ceiling (s : State) : Nat := s.record.ceiling
/-- The lease period P in ms (R103). -/
def State.lease (s : State) : Nat := s.record.lease
/-- The renew interval R in ms (R103). -/
def State.renewInterval (s : State) : Nat := s.record.renew
/-- The holdover H in ms (R103). -/
def State.holdover (s : State) : Nat := s.record.holdover

/-! ### What each state does (04 R69, 09 section 9.7) -/

/-- The listening states (R42). -/
def Mode.listening : Mode → Bool
  | .start | .learning | .member | .isolated => true
  | _ => false

/-- The six states in which the line interface, the load sampler and the droop monitor run (R69, R139, R142). -/
def Mode.running : Mode → Bool
  | .start | .learning | .member | .isolated | .fault | .mute => true
  | _ => false

/-- The states whose advertised demand is the requested demand while droop hold is clear (R25). -/
def Mode.advertises : Mode → Bool
  | .start | .learning | .member => true
  | _ => false

/-- The states in which a changed advertised demand is handed to the outbox as a notice (R26). -/
def Mode.takesNotice : Mode → Bool
  | .learning | .member => true
  | _ => false

/-- The line interface follows the line (R69). -/
def State.lineOn (s : State) : Bool := !s.resetHeld && s.mode.running

/-- The load sampler runs (R139). -/
def State.samplerOn (s : State) : Bool := !s.resetHeld && s.mode.running

/-- The droop monitor runs (R142). -/
def State.droopMonitorOn (s : State) : Bool := !s.resetHeld && s.mode.running && s.record.droopEnable

/-- The wake detector watches SHARE (R82, R134). -/
def State.wakeDetectorOn (s : State) : Bool := !s.resetHeld && decide (s.mode = .dormant) && s.record.busWake

/-! ### Demand, roster, free and overcommit -/

/-- The advertised demand (R25). -/
def State.advertised (s : State) : Nat :=
  if s.mode.advertises && !s.droopHold then s.requested else 0

/-- The own entry is present: in every state except UNCONFIGURED (R4, R19). -/
def State.hasOwnEntry (s : State) : Bool := !s.resetHeld && decide (s.mode ≠ .unconfigured)

/-- The own entry (R6). -/
def State.ownEntry (s : State) : Entry :=
  { address := s.address, status := .live, holding := s.holding, demand := s.advertised, age := s.ownAge }

/-- The roster: the replicas and the own entry, by ascending address (R4). -/
def State.roster (s : State) : List Entry :=
  if s.hasOwnEntry then putEntry s.ownEntry s.replicas else []

/-- The roster sum (R16). -/
def State.rosterSum (s : State) : Nat := sumHoldings s.roster

/-- Free: B less the roster sum (R16). -/
def State.free (s : State) : Int := (s.budget : Int) - s.rosterSum

/-- Overcommit: the roster sum exceeds B (R17). -/
def State.overcommitted (s : State) : Bool := decide (s.budget < s.rosterSum)

/-- The holdings of every entry other than the one at `a` (R45). -/
def State.othersHolding (s : State) (a : Address) : Nat := sumHoldings (dropEntry a s.roster)

/-- The claim amount: the smaller of t and h + free (R35). -/
def State.claimAmount (s : State) : Int := min (s.target : Int) ((s.holding : Int) + s.free)

/-- The own target as the reckoning gives it now (R30). -/
def State.fairTarget (s : State) : Nat := targetAt s.budget s.roster s.address

/-- The second course of R32: below the target, and nothing holds a claim off. -/
def State.claimWanted (s : State) : Bool :=
  decide (s.holding < s.target) && decide (s.mode = .member) && !s.droopHold && decide (0 < s.free)
    && !s.overcommitted && s.suppression.isNone

/-- The station holds or wants current (R50, R105). -/
def State.holdsOrWants (s : State) : Bool := decide (0 < s.holding) || decide (0 < s.advertised)

/-! ### The outbox and the transmitter -/

/-- The collection holds an intent (R84). -/
def Outbox.waiting (o : Outbox) : Bool :=
  o.yield.isSome || o.renew.isSome || o.claim.isSome || o.census.isSome

/-- The outbox is empty: no intent waits and none is in flight (R84). -/
def Outbox.isEmpty (o : Outbox) : Bool := !o.waiting && o.inFlight.isNone

/-- The kind the outbox offers: the highest rank present (R87). -/
def Outbox.offer (o : Outbox) : Option Kind :=
  if o.yield.isSome then some .yield
  else if o.renew.isSome then some .renew
  else if o.claim.isSome then some .claim
  else if o.census.isSome then some .census
  else none

/-- The intent of a kind in the collection. -/
def Outbox.get (o : Outbox) : Kind → Option Intent
  | .yield => o.yield | .renew => o.renew | .claim => o.claim | .census => o.census

/-- The transmitter's states (R76). -/
inductive TransmitterState where
  | idle | contend | breaking | header | payload | slots
  deriving DecidableEq, Repr

/-- The verdict drives the ACK slot of the frame (R43, R67). -/
def FrameRecord.drivesAck (r : FrameRecord) : Bool :=
  decide (r.role = .receiver) && r.verdict == some .ack

/-- The station drives the VOID slot of the frame: a receiver by its verdict (R43), a sender after a clash or readback
error (R79). -/
def FrameRecord.drivesVoid (r : FrameRecord) : Bool :=
  match r.role with
  | .receiver => match r.verdict with
    | some .voidReception | some .voidClash | some .voidBudget => true
    | _ => false
  | .sender => match r.mismatch with
    | some (.clash, _) | some (.readback, _) => true
    | _ => false
  | .onlooker => false

/-- The sender has left its marks for the slots (R76): the last has passed, or a mismatch has stopped them (R78). -/
def FrameRecord.inSlots (r : FrameRecord) : Bool := r.mismatch.isSome || decide (Config.ackStart ≤ r.elapsed)

/-- The transmitter's state, by the break or the frame of the station's own, and the collection (R76). -/
def State.transmitter (s : State) : TransmitterState :=
  let waiting : TransmitterState := if s.outbox.waiting then .contend else .idle
  match s.opening, s.frame with
  | some o, _ => if o.role = .sender then .breaking else waiting
  | none, some r =>
    if r.role = .sender then
      if r.inSlots then .slots
      else if r.marks.length < Config.headerMarks then .header
      else .payload
    else waiting
  | none, none => waiting

/-- The station is a contender or the sender of the frame on the line. -/
def State.sending (s : State) : Bool :=
  s.opening.any (fun o => decide (o.role = .sender)) || s.frame.any (fun r => decide (r.role = .sender))

/-- The record of a frame at its break end (R72). -/
def Opening.record (o : Opening) : FrameRecord where
  role := o.role
  elapsed := 0
  marks := []
  symbolError := false
  verdict := none
  ackSample := none
  voidSample := none
  sent := o.sent
  mismatch := none

/-- The record of the frame that an event of the line speaks of: the one in flight, or the one that the break now on
the line opens at its end (R72). -/
def State.followed (s : State) : Option FrameRecord :=
  match s.opening with
  | some o => some o.record
  | none => s.frame

/-- The retry backoff in T/10: (1 + a) × 3T while the flag is set (R91). -/
def State.backoffTime (s : State) : Nat :=
  if s.outbox.backoff then (1 + s.address.toNat) * Config.backoffStep else 0

/-- The wait before a break in T/10 (R73): the idle gap and the backoff, or the join quiet (log 22). -/
def State.contentionWait (s : State) : Nat :=
  if s.synchronised then Config.idleGap + s.backoffTime else Config.joinQuiet

/-- The filtered line is high: no low and no break is on it. -/
def State.lineHigh (s : State) : Bool := s.lineLow.isNone && s.opening.isNone

/-- The wait of R73 has passed: the line is high, no frame is followed (a follower that is not synchronised may
complete its join quiet inside a stopped frame, log 30), and the line has been high for long enough. -/
def State.waitPassed (s : State) : Bool :=
  s.lineHigh && (s.frame.isNone || !s.synchronised) && decide (s.contentionWait ≤ s.highTime)

/-- The station saw the falling edge of the low on the line, or the one that comes now, in a listening state and has
been in one since: it is a receiver of the frame that this low opens (R42). -/
def State.sawEdgeListening (s : State) : Bool :=
  match s.lineLow with
  | none => s.mode.listening
  | some .unseen => false
  | some (.seen receiver) => receiver && s.mode.listening

/-- The role toward the frame that the low on the line opens (R42, R69, R71, R81, R82). -/
def State.roleAtBreak (s : State) : Role := if s.sawEdgeListening then .receiver else .onlooker

/-! ### What is read off the record of a frame (R72) -/

/-- Where a frame stands (R72). -/
inductive Position where
  | lead | mark (k : Nat) | ackSlot | voidSlot
  deriving DecidableEq, Repr

/-- The position, by the time since the break end (R66, R67). -/
def FrameRecord.position (r : FrameRecord) : Position :=
  if r.elapsed < Config.lead then .lead
  else if r.elapsed < Config.ackStart then .mark ((r.elapsed - Config.lead) / Config.markPitch)
  else if r.elapsed < Config.voidStart then .ackSlot
  else .voidSlot

/-- The fields the marks of the record carry; `none` is a reception error (R44). -/
def FrameRecord.fields (r : FrameRecord) : Option FrameFields :=
  if r.symbolError then none else decodeMarks r.marks

/-- The sender drives marks still: no mismatch has arisen, or the position it arose at is not over (R78, R83). -/
def FrameRecord.drivesOn (r : FrameRecord) : Bool :=
  match r.mismatch with
  | some (_, k) => decide (r.elapsed < windowOpening (k + 1))
  | none => true

/-- The station drives SHARE low in the frame (R83): as its sender its marks up to the position of a mismatch and the VOID
of that, as its receiver the slot of its verdict. -/
def FrameRecord.drives (r : FrameRecord) : Bool :=
  (match r.role, r.sent with
    | .sender, some f => r.drivesOn && f.drivesMark r.elapsed
    | _, _ => false)
  || (r.drivesAck && decide (Config.ackStart ≤ r.elapsed)
    && decide (r.elapsed < Config.ackStart + Config.slotDrive))
  || (r.drivesVoid && decide (Config.voidStart ≤ r.elapsed)
    && decide (r.elapsed < Config.voidStart + Config.slotDrive))

/-- The contender drives its own break for 8T from its start, and then waits for the line to rise (R66, R75). -/
def Opening.drives (o : Opening) : Bool :=
  decide (o.role = .sender) && decide (o.ownTime < Config.breakLength)

/-- SHARE is pulled low by this station at the moment its record and its own break time have come to (R83). -/
def State.shareDriven (s : State) : Bool :=
  s.lineOn && (s.opening.any Opening.drives || s.frame.any FrameRecord.drives)

/-! ### The other pins and the local port's values -/

/-- A kind is latched (R170). -/
def State.latched (s : State) (k : EventKind) : Bool := s.latch.getLsbD k.bit

/-- A kind is masked (R172). -/
def State.masked (s : State) (k : EventKind) : Bool := s.mask.getLsbD k.bit

/-- ATTN is low: an unmasked kind is latched; it is released while RESET is held (R173). -/
def State.attnLow (s : State) : Bool := !s.resetHeld && decide (s.latch &&& ~~~s.mask ≠ 0)

/-- The kind TAKE hands over: the highest-priority one latched and not masked (R171). -/
def State.nextEvent (s : State) : Option EventKind :=
  EventKind.all.find? fun k => s.latched k && !s.masked k

/-- The current DRIVE regulates to, in mA: the level times the unit size; 0 in UNCONFIGURED and while RESET is held
(R1, R136). -/
def State.driveMilliamps (s : State) : Nat :=
  if s.resetHeld || decide (s.mode = .unconfigured) then 0 else s.level * s.record.unit

/-- Byte `n` of the reply as clocked out: fill of value 0 beyond it (R161). -/
def State.replyByte (s : State) (n : Nat) : Byte := s.reply.getD n 0

/-- Byte `n` of a transaction on SDO, by how many request bytes it shifts in: fill of value 0 under each of them, then
the reply (R161). -/
def State.sdoByte (s : State) (requestBytes n : Nat) : Byte :=
  if n < requestBytes then 0 else s.replyByte (n - requestBytes)

/-- The levels of a pin that may be left undriven. -/
inductive PinLevel where
  | low | high | highImpedance
  deriving DecidableEq, Repr

/-- SDO at bit `n` of a transaction (R161, R162, R180): each byte most significant bit first; high-impedance while SEL
is high and while RESET is held. -/
def State.sdo (s : State) (selHigh : Bool) (requestBytes n : Nat) : PinLevel :=
  if selHigh || s.resetHeld then .highImpedance
  else if (s.sdoByte requestBytes (n / 8)).getLsbD (7 - n % 8) then .high
  else .low

/-- The flags byte of STATUS (R178). -/
def State.flagsByte (s : State) : Byte :=
  dataByte (128 * s.droopHold.toNat + 64 * s.overcommitted.toNat + 32 * s.under.toNat
    + 16 * s.record.lone.toNat)

/-! ### Which expiry is due (R102): the count has reached its value and its owner acts on it -/

/-- The replica at `a` is LIVE with an age of P or more (R107). -/
def State.lapseDue (s : State) (a : Address) : Bool :=
  s.lineOn && match findEntry a s.replicas with
    | some e => decide (e.status = .live) && decide (s.lease ≤ e.age)
    | none => false

/-- The replica at `a` is LAPSED with an age of P + H or more (R108). -/
def State.removalDue (s : State) (a : Address) : Bool :=
  s.lineOn && match findEntry a s.replicas with
    | some e => decide (e.status = .lapsed) && decide (s.lease + s.holdover ≤ e.age)
    | none => false

/-- A timer has run for `n` ms. -/
def ranFor (timer : Option Nat) (n : Nat) : Bool :=
  match timer with
  | some ms => decide (n ≤ ms)
  | none => false

/-- The self lease is reached: MEMBER with an own silence age of P or more (R110). An acceptance taken first has set the
age to 0, and then it is not reached (R112); the entry that still follows by R101 is OWN_FRAME_OUTCOME's to name
(log 32). -/
def State.selfLeaseDue (s : State) : Bool :=
  !s.resetHeld && decide (s.mode = .member) && decide (s.lease ≤ s.ownAge)

/-- The renew timer has run for R (R104). An acceptance taken first has restarted it, and the expiry does not happen
(log 32); the RENEW that still follows at that moment by R101 is OWN_FRAME_OUTCOME's to name. -/
def State.renewDue (s : State) : Bool :=
  match s.renewTimer with
  | .running ms => !s.resetHeld && decide (s.renewInterval ≤ ms)
  | _ => false

/-- The suppression timer has run for R (R37). -/
def State.suppressionDue (s : State) : Bool := !s.resetHeld && ranFor s.suppression s.renewInterval

/-- The census retry timer has run for P (R93). -/
def State.censusRetryDue (s : State) : Bool := !s.resetHeld && ranFor s.censusRetry s.lease

/-- The window's cap timer has run for R in LEARNING (R129). -/
def State.capDue (s : State) : Bool :=
  !s.resetHeld && decide (s.mode = .learning) && ranFor s.windowCap s.renewInterval

/-- The mute wait has run for 2P in MUTE (R158). -/
def State.muteWaitDue (s : State) : Bool :=
  !s.resetHeld && decide (s.mode = .mute) && ranFor s.muteWait (2 * s.lease)

/-- The droop recovery timer has run for R while the monitor runs (R144, R145). -/
def State.recoveryDue (s : State) : Bool := s.droopMonitorOn && ranFor s.recovery s.renewInterval

/-- The output level is below the ramp target (R138). -/
def State.rampDue (s : State) : Bool := !s.resetHeld && decide (s.level < s.rampTarget)

end Sys2Proof.Machine
end

