-- ==== Sys2Proof/Machine/Ops.lean ====
section
/-! DEFINITION. The named operations the commands share: the event latch, the own holding and the output level, the
outbox, the recompute with its balance action, the entries to the station states, the frames, and the lease tick. -/

namespace Sys2Proof.Machine

/-! ### Event latch -/

/-- A kind is latched; a kind latched already merges (R170). -/
def latchEvent (k : EventKind) (s : State) : State := { s with latch := s.latch ||| k.word }

/-! ### Own holding and output level -/

/-- The level takes a new value: a level change, which resets the settle count, the runs and UNDER (R139). -/
def setLevel (n : Nat) (s : State) : State :=
  { s with level := n, settle := Config.settleSamples, overdrawRun := 0, underRun := 0, under := false }

/-- The own holding takes a new value (R7, R137): the ramp target follows, a level above it falls to it at once,
and OUTPUT is latched; an equal value changes nothing. -/
def setHolding (v : Nat) (s : State) : State :=
  if v = s.holding then s
  else
    let s' := latchEvent .output { s with holding := v, rampTarget := v }
    if v < s.level then setLevel v s' else s'

/-! ### Outbox -/

/-- A new intent (R85). -/
def Intent.new : Intent := ⟨0, false, false⟩

/-- Queuing into one place of the collection: a new record, or a merge that clears the covered mark (R85). -/
def mergeQueued : Option Intent → Option Intent
  | none => some Intent.new
  | some i => some { i with covered := false }

/-- The collection with the place of a kind set. -/
def Outbox.put (k : Kind) (i : Option Intent) (o : Outbox) : Outbox :=
  match k with
  | .yield => { o with yield := i }
  | .renew => { o with renew := i }
  | .claim => { o with claim := i }
  | .census => { o with census := i }

/-- The intent in flight is cancelled when it is of a kind that is removed (R96). -/
def Outbox.cancel (removed : Kind → Bool) (o : Outbox) : Outbox :=
  { o with inFlight := o.inFlight.map fun f => if removed f.kind then { f with cancelled := true } else f }

/-- Every intent is removed, the intent in flight is cancelled and the backoff flag cleared (R97, R98). -/
def Outbox.clear (o : Outbox) : Outbox :=
  { Outbox.empty with inFlight := (o.cancel fun _ => true).inFlight }

/-- FAULT entry's removal: every intent but a YIELD (R99). -/
def Outbox.keepYield (o : Outbox) : Outbox :=
  { o.cancel (fun k => decide (k ≠ .yield)) with renew := none, claim := none, census := none }

/-- An intent is queued (R85); queuing a CENSUS stops the census retry timer (R93). -/
def queueIntent (k : Kind) (s : State) : State :=
  { s with
    outbox := s.outbox.put k (mergeQueued (s.outbox.get k))
    censusRetry := if k = .census then none else s.censusRetry }

/-- The outbox is cleared at a state entry, and the census retry timer stops (R97, R98). -/
def clearOutbox (s : State) : State := { s with outbox := s.outbox.clear, censusRetry := none }

/-- The CLAIM intent carries a demand notice (R86). -/
def Outbox.claimNotice (o : Outbox) : Bool :=
  match o.claim with
  | some i => i.notice
  | none => false

/-- The CLAIM intent leaves the collection unsent; a notice that rode on it becomes a RENEW (R36, R17, R86). -/
def withdrawClaim (s : State) : State :=
  let s' := { s with outbox := s.outbox.put .claim none }
  if s.outbox.claimNotice then queueIntent .renew s' else s'

/-- A notice of changed advertised demand: it rides on a YIELD or a CLAIM, else it becomes a RENEW (R86). -/
def demandNotice (s : State) : State :=
  if s.outbox.yield.isSome then s
  else
    match s.outbox.claim with
    | some i => { s with outbox := s.outbox.put .claim (some { i with notice := true }) }
    | none => queueIntent .renew s

/-! ### Recompute and balance action -/

/-- Claim suppression is lifted and its timer stops (R37). -/
def liftSuppression (s : State) : State := { s with suppression := none }

/-- The overcommit condition after a change of the roster sum: at its beginning OVERCOMMIT is latched and any CLAIM
is removed, or cancelled in flight (R17, R96). `was` is the condition before the change. -/
def beginOvercommit (was : Bool) (s : State) : State :=
  if !was && s.overcommitted then
    latchEvent .overcommit
      (withdrawClaim { s with outbox := s.outbox.cancel fun k => decide (k = .claim) })
  else s

/-- The own target is replaced by what the reckoning gives now (R30). -/
def refreshTarget (s : State) : State := { s with target := s.fairTarget }

/-- A balance yield (R33): the holding falls to the target at once and a YIELD is queued. The holding's change lifts
claim suppression (R37); the recompute it brings finds the holding at the target (R31; log 15). -/
def balanceYield (s : State) : State :=
  queueIntent .yield (liftSuppression (setHolding s.target s))

/-- The balance action: exactly one of three courses (R32). -/
def balance (s : State) : State :=
  if s.target < s.holding then balanceYield s
  else if s.claimWanted then queueIntent .claim s
  else s

/-- The recompute with its balance action (R31). -/
def recompute (s : State) : State := balance (refreshTarget s)

/-- What the roster hands on after a change of an entry (R18): suppression is lifted, overcommit is evaluated, the
allocator recomputes. -/
def rosterPass (was : Bool) (s : State) : State := recompute (beginOvercommit was (liftSuppression s))

/-- The own entry's holding or demand has changed (R7, R8). -/
def ownChanged (before s : State) : Bool :=
  decide (before.holding ≠ s.holding) || decide (before.advertised ≠ s.advertised)

/-- The roster's pass for a change of the own entry, when there is one (R18). -/
def ownPass (before s : State) : State :=
  if ownChanged before s then rosterPass before.overcommitted s else s

/-- The one recompute of a state entry (R111, R151, R156): a change of the own entry lifts suppression first. -/
def entryPass (before s : State) : State :=
  recompute (if ownChanged before s then liftSuppression s else s)

/-- The notice of a changed advertised demand, in the states that take one (R26). -/
def announceDemand (before s : State) : State :=
  if s.mode.takesNotice && decide (before.advertised ≠ s.advertised) then demandNotice s else s

/-- The holding or advertised demand rises from 0 in MEMBER while the renew timer is due: a RENEW (R105; log 38). -/
def renewOnRise (before s : State) : State :=
  if decide (s.mode = .member) && decide (s.renewTimer = .due)
      && ((decide (before.holding = 0) && decide (0 < s.holding))
        || (decide (before.advertised = 0) && decide (0 < s.advertised))) then
    queueIntent .renew s
  else s

/-! ### Entries to the station states -/

/-- A station that leaves the listening states is a receiver no longer (R42, R72). -/
def Role.demote : Role → Role
  | .receiver => .onlooker
  | role => role

/-- A low whose falling edge was seen opens no frame to a receiver any more (R42). -/
def LineLow.demote : LineLow → LineLow
  | .unseen => .unseen
  | .seen _ => .seen false

/-- A receiver of a frame on the line, or of the one that a low on the line opens, becomes an onlooker (R42, R72). -/
def demoteReceiver (s : State) : State :=
  { s with
    opening := s.opening.map fun o => { o with role := o.role.demote }
    frame := s.frame.map fun r => { r with role := r.role.demote }
    lineLow := s.lineLow.map LineLow.demote }

/-- Entry to START (R124), from any cause: the roster holds the own entry alone, the outbox is cleared, and the
requested demand, droop hold, silence age, latch and mask stay as the cause left them, as do the frame and the low on
the line (R82). -/
def enterStart (s : State) : State :=
  recompute (liftSuppression (clearOutbox
    { setHolding 0 s with
      mode := .start
      faultCause := .none
      voidRun := 0
      replicas := []
      synchronised := false
      joinCondition := false
      highTime := 0
      wakeArmed := false
      renewTimer := .stopped
      windowCap := none
      muteWait := none
      level := 0
      rampTarget := 0
      settle := Config.settleSamples
      overdrawRun := 0
      underRun := 0
      under := false }))

/-- A wake from DORMANT: droop hold is cleared, the monitor starts afresh, the own silence age is 0, and START is
entered (R20, R134, R135, R145). -/
def wakeStation (s : State) : State :=
  enterStart { s with droopHold := false, recovery := none, supplyLow := false, ownAge := 0 }

/-- Entry to LEARNING after the acceptance of a CENSUS that carried the demand `carried` (R128). -/
def enterLearning (carried : Nat) (s : State) : State :=
  let s' := ownPass s
    { s with
      mode := .learning
      windowCap := some 0
      highTime := 0
      joinCondition := false
      censusRetry := none
      outbox := (s.outbox.cancel fun k => decide (k = .census)).put .census none }
  if s'.advertised ≠ carried then demandNotice s' else s'

/-- Entry to MEMBER at the close of the census window (R130). -/
def enterMember (s : State) : State :=
  let s' := { s with mode := .member, windowCap := none, censusRetry := none }
  recompute (if decide (s'.renewTimer = .due) && s'.holdsOrWants then queueIntent .renew s' else s')

/-- Entry to ISOLATED, by the self lease or by RELEARN (R111, R98). -/
def enterIsolated (relearn : Bool) (s : State) : State :=
  let s1 := clearOutbox (setHolding 0
    { s with mode := .isolated, windowCap := none, muteWait := none, joinCondition := false })
  let s2 := if relearn && decide (0 < s.holding) then queueIntent .yield s1 else s1
  entryPass s (latchEvent .isolated (queueIntent .census s2))

/-- Entry to FAULT (R151); in FAULT a second cause changes nothing (R149). -/
def enterFault (cause : FaultCause) (s : State) : State :=
  if s.mode = .fault then s
  else
    let s1 := setHolding 0 (demoteReceiver
      { s with mode := .fault, faultCause := cause, windowCap := none, muteWait := none, joinCondition := false })
    let s2 := { s1 with outbox := s1.outbox.keepYield, censusRetry := none }
    let s3 := if 0 < s.holding then queueIntent .yield s2 else s2
    entryPass s (latchEvent .fault s3)

/-- Entry to MUTE (R156). -/
def enterMute (s : State) : State :=
  entryPass s (latchEvent .muted (clearOutbox (setHolding 0 (demoteReceiver
    { s with mode := .mute, muteWait := some 0, windowCap := none, joinCondition := false }))))

/-- Entry to DORMANT (R132, R21, R147; log 13). A low on the line is none that the line interface will have seen begin
(R64). DESIGN CHOICE (log 40): the droop monitor stops (R145), no rule gives its filtered SUPPLY-LOW state from then on, and
it is kept as it stands. -/
def enterDormant (s : State) : State :=
  recompute (liftSuppression (clearOutbox
    { setHolding 0 s with
      mode := .dormant
      replicas := []
      opening := none
      frame := none
      synchronised := false
      joinCondition := false
      highTime := 0
      lineLow := s.lineLow.map fun _ => .unseen
      wakeArmed := false
      renewTimer := .stopped
      windowCap := none
      muteWait := none
      level := 0
      rampTarget := 0
      settle := 0
      overdrawRun := 0
      underRun := 0
      under := false }))

/-! ### The line -/

/-- The filtered line has been high for `n` more, in T/10: counted while no low and no frame is on it. Inside a followed
frame the frame's own lows tell how long the line has been high (log 6). -/
def addHigh (n : Nat) (s : State) : State :=
  if s.lineHigh && s.frame.isNone then { s with highTime := s.highTime + n } else s

/-- A known frame end (R73): the flag is set, the quiet counts start again, and in START the join condition
becomes true and queues a CENSUS (R126). -/
def knownFrameEnd (s : State) : State :=
  let s' := { s with synchronised := true, highTime := 0 }
  if decide (s.mode = .start) && !s.joinCondition then queueIntent .census { s' with joinCondition := true }
  else s'

/-- The low on the line is classed a break (R65): the station follows the frame that it opens, as R42 gives, and the frame
it followed has ended (R71, R81). The record comes at the break end (R72). -/
def followBreak (s : State) : State :=
  { s with
    opening := some { role := s.roleAtBreak, sent := none, ownTime := 0 }
    frame := none
    highTime := 0
    lineLow := some (.seen s.sawEdgeListening) }

/-! ### Outcomes at the outbox -/

/-- A covered RENEW at a frame's outcome: removed by an acceptance, else its mark is cleared (R89, R95). -/
def settleCovered (accepted : Bool) : Option Intent → Option Intent
  | none => none
  | some i => if i.covered then (if accepted then none else some { i with covered := false }) else some i

/-- The handling of an intent that has failed eight times (R92, R93, R94). -/
def eighthFailure (k : Kind) (i : Intent) (s : State) : State :=
  match k with
  | .claim =>
    let s' := latchEvent .abandoned { s with outbox := s.outbox.put .claim none, suppression := some 0 }
    if i.notice then queueIntent .renew s' else s'
  | .census => { s with outbox := s.outbox.put .census none, censusRetry := some 0 }
  | .yield => { s with outbox := s.outbox.put .yield (some { i with attempts := 0 }) }
  | .renew => { s with outbox := s.outbox.put .renew (some { i with attempts := 0 }) }

/-- An intent returns from flight, merging with one queued meanwhile (R90). -/
def returnIntent (k : Kind) (i : Intent) (s : State) : State :=
  let queuedNotice := match s.outbox.get k with
    | some q => q.notice
    | none => false
  let i' : Intent := { attempts := i.attempts, notice := i.notice || queuedNotice, covered := false }
  let s' := { s with outbox := s.outbox.put k (some i') }
  if i'.attempts < Config.maxAttempts then s' else eighthFailure k i' s'

/-- The outbox takes the outcome of the own frame (R89); a cancelled intent is discarded at every outcome (R96). -/
def takeOutcome (out : FrameOutcome) (s : State) : State :=
  match s.outbox.inFlight with
  | none => s
  | some f =>
    let s' := { s with
      outbox := { s.outbox with
        inFlight := none
        renew := settleCovered (decide (out = .accepted)) s.outbox.renew } }
    if f.cancelled then s'
    else
      match out with
      | .accepted => s'
      | .lost => returnIntent f.kind f.intent s'
      | .voided | .unheard | .clash =>
        returnIntent f.kind { f.intent with attempts := f.intent.attempts + 1 }
          { s' with outbox := { s'.outbox with backoff := true } }

/-! ### Breaks of the station's own -/

/-- The frozen fields of a frame of kind `k` that begins now (R40); a CLAIM carries the claim amount (R35). -/
def State.ownFields (s : State) (k : Kind) : FrameFields :=
  { kind := k
    sender := s.address
    holding := if k = .claim then s.claimAmount.toNat else s.holding
    demand := s.advertised }

/-- The outbox at the break start of kind `k` (R88): the intent goes into flight, a RENEW left behind is covered,
the backoff flag is cleared. -/
def Outbox.launch (k : Kind) (o : Outbox) : Outbox :=
  match o.get k with
  | none => o
  | some i =>
    let o' := { o.put k none with inFlight := some ⟨k, i, false⟩, backoff := false }
    { o' with renew := if k = .renew then o'.renew else o'.renew.map fun r => { r with covered := true } }

/-- The station begins the break of a frame of kind `k` as a contender (R74, R88): its own falling edge is on the line,
and a stopped frame it may have followed is over for it (log 30). -/
def beginBreak (k : Kind) (s : State) : State :=
  { s with
    outbox := s.outbox.launch k
    opening := some { role := .sender, sent := some (sealFrame (s.ownFields k)), ownTime := 0 }
    frame := none
    highTime := 0
    lineLow := some (.seen s.mode.listening) }

/-- The wait has passed and the frame engine asks for an intent (R74, R87): a CLAIM whose amount is not above the
holding is withdrawn, and the engine asks again (R36). -/
def serveOutbox (s : State) : State :=
  match s.outbox.offer with
  | none => s
  | some .claim =>
    if (s.holding : Int) < s.claimAmount then beginBreak .claim s
    else
      let s' := withdrawClaim s
      match s'.outbox.offer with
      | none => s'
      | some k => beginBreak k s'
  | some k => beginBreak k s

/-- A low that has come to 6T (R65). One whose falling edge the filter did not see is not classified (R64). While a
break is on the line already, it is that same low: the contenders' own, or the one followed (R75). Any other ends the
frame on the line, an own one as voided (R81), and opens a new one. -/
def breakRecognised (s : State) : State :=
  if s.lineLow = some .unseen ∨ s.opening.isSome = true then s
  else followBreak (if s.sending then takeOutcome .voided s else s)

/-- A filtered falling edge, whose low has not come to 6T: it stops every count of high line (R73). -/
def fallingEdge (s : State) : State :=
  if s.lineLow.isSome then s
  else { s with lineLow := some (.seen s.mode.listening), highTime := 0 }

/-! ### Frames heard -/

/-- The verdict of a receiver on a heard frame, `none` being a reception error: the first line of R43 that
applies. -/
def State.judgeFrame (s : State) : Option FrameFields → Verdict
  | none => .voidReception
  | some f =>
    if f.sender = s.address then .voidClash
    else if s.mode = .member ∧ f.kind = .claim ∧ s.budget < s.othersHolding f.sender + f.holding then .voidBudget
    else .ack

/-- The void run after a verdict (R48). -/
def voidRunAfter (run : Nat) : Verdict → Nat
  | .voidReception => min Config.maxVoidRun (run + 1)
  | _ => 0

/-- A frame from a peer is applied to the roster (R9 to R12), with what the roster hands on (R18). -/
def applyFrame (f : FrameFields) (s : State) : State :=
  let written := { s with
    replicas := putEntry ⟨f.sender, .live, f.holding, f.demand, 0⟩ s.replicas }
  match findEntry f.sender s.replicas with
  | none => rosterPass s.overcommitted (latchEvent .roster written)
  | some e =>
    if e.status = .live ∧ e.holding = f.holding ∧ e.demand = f.demand then written
    else rosterPass s.overcommitted written

/-- The census answer of a MEMBER that holds or wants current (R50). -/
def answerCensus (f : FrameFields) (s : State) : State :=
  if decide (f.kind = .census) && decide (s.mode = .member) && s.holdsOrWants then queueIntent .renew s else s

/-- The low on the filtered line `now` after the break end (R42, R73): one that began since `elapsed` has its falling
edge noted in the station's present state, another keeps what was noted. -/
def lowAfter (listening : Bool) (noted : Option LineLow) (elapsed now : Nat) (lows : List Low) : Option LineLow :=
  match lows.find? fun l => decide (l.start ≤ now) && decide (now < l.start + l.width) with
  | none => none
  | some l => if l.start ≤ elapsed then some (noted.getD (.seen listening)) else some (.seen listening)

/-- How long the filtered line has been high `now` after the break end (R73): since its last rising edge, but no longer
than the time gone by and what had been counted. -/
def highAfter (high elapsed now : Nat) (lows : List Low) : Nat :=
  if lineLowAt lows now then 0 else min (now - lastRise now lows) (high + (now - elapsed))

/-- The frame on the line has come to `now` with the record `r`; what its lows say of the line (R72, R73). -/
def frameReaches (r : FrameRecord) (now : Nat) (lows : List Low) (s : State) : State :=
  let elapsed := (s.followed.map FrameRecord.elapsed).getD 0
  { s with
    opening := none
    frame := some { r with elapsed := now }
    highTime := highAfter s.highTime elapsed now lows
    lineLow := lowAfter s.mode.listening (if s.opening.isSome then none else s.lineLow) elapsed now lows }

/-- The slot samples of a record that has come to `now` (R67, R72, R79): each is taken at its sample point, and the
station's own slot counts as asserted. -/
def FrameRecord.sampled (r : FrameRecord) (now : Nat) (lows : List Low) : FrameRecord :=
  { r with
    ackSample :=
      if r.ackSample.isNone && decide (Config.ackStart + Config.slotSample ≤ now) then
        some (r.drivesAck || ackSeen lows)
      else r.ackSample
    voidSample :=
      if r.voidSample.isNone && decide (Config.voidStart + Config.slotSample ≤ now) then
        some (r.drivesVoid || voidSeen lows)
      else r.voidSample }

/-- The marks of a record that has come to `now` (R70, R72, R77). -/
def FrameRecord.assembled (r : FrameRecord) (now : Nat) (lows : List Low) : FrameRecord :=
  { r with
    marks := marksRead (readsSoFar now lows)
    symbolError := symbolErrorIn (readsSoFar now lows) }

/-- A receiver has come to its judgement point and has not judged yet (R43, R70). -/
def State.judges (s : State) (r : FrameRecord) (now : Nat) : Bool :=
  decide (r.role = .receiver) && s.mode.listening && r.verdict.isNone && decide (Config.ackStart ≤ now)

/-- A follower that is no sender has come to `now` (R43, R67, R69, R70): a receiver reads the positions that have
passed, and at the judgement point it judges once, by the station as it then stands, which sets the void run (R48);
from then on the verdict and the marks are fixed. Every follower samples the slots. -/
def followTo (r : FrameRecord) (now : Nat) (lows : List Low) (s : State) : State :=
  let read := if decide (r.role = .receiver) && r.verdict.isNone then r.assembled now lows else r
  if s.judges r now then
    let verdict := s.judgeFrame read.fields
    frameReaches (FrameRecord.sampled { read with verdict := some verdict } now lows) now lows
      { s with voidRun := voidRunAfter s.voidRun verdict }
  else frameReaches (read.sampled now lows) now lows s

/-- What a receiver does at the end of the VOID slot (R46, R47, R49, R155): by its verdict it enters FAULT or MUTE, sets
the frame aside, or applies it, as no VOID was seen. DESIGN CHOICE (log 37): where a break cuts off the frame whose verdict
brought the run to 8, it has no end, and the spec does not say what follows; MUTE is entered only here, so the station stays
as it is with its run at 8, and the end of a later frame voided for a reception error mutes it. -/
def applyVerdict (r : FrameRecord) (s : State) : State :=
  match r.verdict with
  | some .voidClash => enterFault .clash s
  | some .voidReception => if Config.maxVoidRun ≤ s.voidRun then enterMute s else s
  | some .ack =>
    match r.fields with
    | some f => if r.voidSample = some true then s else answerCensus f (applyFrame f s)
    | none => s
  | some .voidBudget => s
  | none => s

/-- The end of a followed frame: a known frame end in every role (R69, R73), and at a receiver its verdict's effect. -/
def endFollowed (s : State) : State :=
  match s.frame with
  | none => s
  | some r =>
    let s' := knownFrameEnd { s with frame := none }
    if decide (r.role = .receiver) && s.mode.listening then applyVerdict r s' else s'

/-! ### The own frame -/

/-- Arbitration is lost at header position `k`, at the moment the class of its mark is known (R77): the outcome lost goes to
the outbox at once, and the station goes on as a receiver, or as an onlooker outside the listening states, with the marks
read so far, which are those it sent before the long one. -/
def loseArbitration (r : FrameRecord) (sent : SentFrame) (k : Nat) (lows : List Low) (s : State) : State :=
  frameReaches
    { r with
      role := if s.mode.listening then .receiver else .onlooker
      marks := sent.marks.take k ++ [.long]
      symbolError := false
      verdict := none
      sent := none
      mismatch := some (.lost, k) }
    (max r.elapsed ((mismatchMoment sent.marks lows).getD 0)) lows (takeOutcome .lost s)

/-- The first mismatch of a sender that has come to `now` (R77, R78): once found, it stays. -/
def FrameRecord.mismatchBy (r : FrameRecord) (sent : SentFrame) (now : Nat) (lows : List Low) :
    Option (Mismatch × Nat) :=
  match r.mismatch with
  | some m => some m
  | none => mismatchFound sent.marks now lows

/-- A sender has come to `now` (R77 to R79): it reads its own positions back; at a lost header mark it hands on the
outcome lost, at any other mismatch it stops driving marks, and it samples both slots. -/
def sendTo (r : FrameRecord) (sent : SentFrame) (now : Nat) (lows : List Low) (s : State) : State :=
  match r.mismatchBy sent now lows with
  | some (.lost, k) => loseArbitration r sent k lows s
  | m => frameReaches (FrameRecord.sampled { r.assembled now lows with mismatch := m } now lows) now lows s

/-- The effects of an accepted own frame with the fields `f` on the station (R52, and R59, R60, R62 by its
kind). -/
def acceptOwnFrame (f : FrameFields) (s : State) : State :=
  let s1 := { s with ownAge := 0, renewTimer := .running 0 }
  match f.kind with
  | .yield => s1
  | .renew => s1
  | .claim =>
    if decide (s.mode = .member) && !s.droopHold then
      let s2 := setHolding f.holding s1
      recompute (beginOvercommit s.overcommitted (if s2.holding = s.holding then s2 else liftSuppression s2))
    else queueIntent .yield s1
  | .census =>
    if s.mode = .start ∨ s.mode = .isolated then enterLearning f.demand s1 else s1

/-- The own frame `sent` ends with `out` (R80, R89): the outbox first, then the known frame end, then the outcome's
effect on the station. -/
def endOwnFrame (sent : SentFrame) (out : FrameOutcome) (s : State) : State :=
  let s' := knownFrameEnd { takeOutcome out s with frame := none }
  match out with
  | .accepted => acceptOwnFrame sent.fields s'
  | .clash => enterFault .clash s'
  | _ => s'

/-- The end of the own frame with the record `r` (R80). -/
def concludeOwn (r : FrameRecord) (sent : SentFrame) (s : State) : State :=
  endOwnFrame sent
    (outcomeOf s.record.lone (r.mismatch.map Prod.fst) (r.ackSample == some true) (r.voidSample == some true)) s

/-! ### Lapse and removal -/

/-- The replica at `a` lapses (R13). -/
def lapseEntry (a : Address) (s : State) : State :=
  match findEntry a s.replicas with
  | none => s
  | some e =>
    rosterPass s.overcommitted
      (latchEvent .roster { s with replicas := putEntry { e with status := .lapsed } s.replicas })

/-- The replica at `a` is removed (R14). -/
def removeEntry (a : Address) (s : State) : State :=
  rosterPass s.overcommitted (latchEvent .roster { s with replicas := dropEntry a s.replicas })

/-! ### The local port -/

/-- The reply of a request: the status byte and its data (R161, R178). -/
def answer (status : PortStatus) (data : List Byte) (s : State) : State :=
  { s with reply := status.byte :: data }

/-- A transaction ends with the effect `effect` of its request: none while RESET is held (R162), and none where its
select fell before the read event, which ends with it (R118); a transaction opened in DORMANT wakes the station after its
effect (R135). -/
def transaction (effect : State → State) (s : State) : State :=
  if s.resetHeld then s
  else if s.straddling then { s with straddling := false }
  else if s.mode = .dormant then wakeStation (effect s)
  else effect s

/-! ### Power-on and RESET -/

/-- RESET falls, or power is lost (R118): nothing survives but the one-time memory, with the bytes a write in
progress had stored by then (R123; a free value, log 12). -/
def holdReset (s : State) : State :=
  match s.writing with
  | none => { State.reset with oneTime := s.oneTime, fresh := s.fresh, pending := s.pending }
  | some b =>
    { State.reset with
      oneTime := b.partly (Config.bytesWritten s.fresh % 6)
      fresh := s.fresh + 1
      pending := s.pending }

/-- The read event (R118): straps and record are read and checked, every block takes its power-on values,
RESTARTED is latched, and START or UNCONFIGURED is entered. In START the line interface starts: a low that is on SHARE
then was not seen to begin (R64). A transaction whose select has fallen by then is ignored. -/
def releaseReset (pins : ReadPins) (s : State) : State :=
  let s' := { State.reset with
    resetHeld := false
    oneTime := s.oneTime
    address := pins.straps
    record := s.oneTime
    cause := s.oneTime.judge
    latch := EventKind.restarted.word
    straddling := pins.selectLow
    fresh := s.fresh
    pending := s.pending }
  if s'.cause = .ok then enterStart { s' with lineLow := if pins.shareLow then some .unseen else none } else s'

/-! ### The lease clock -/

/-- A silence age advances by 1 and saturates (R5, R6, R15). -/
def advanceAge (age : Nat) : Nat := min Config.maxAge (age + 1)

/-- The renew timer advances while it runs (R104). -/
def RenewTimer.advance : RenewTimer → RenewTimer
  | .running ms => .running (ms + 1)
  | t => t

/-- One tick advances together every count the lease clock holds (R102); the droop recovery timer stands still in
DORMANT (R145). -/
def advanceCounts (s : State) : State :=
  { s with
    ownAge := advanceAge s.ownAge
    replicas := s.replicas.map fun e => { e with age := advanceAge e.age }
    renewTimer := s.renewTimer.advance
    suppression := s.suppression.map (· + 1)
    censusRetry := s.censusRetry.map (· + 1)
    windowCap := s.windowCap.map (· + 1)
    muteWait := s.muteWait.map (· + 1)
    recovery := if s.mode = .dormant then s.recovery else s.recovery.map (· + 1) }

/-- The events that are due (R102, R138). -/
def State.dueEvents (s : State) : List Instr :=
  (if s.rampDue then [.rampStep] else [])
    ++ (s.replicas.filter fun e => s.lapseDue e.address).map (fun e => .lapse e.address)
    ++ (s.replicas.filter fun e => s.removalDue e.address).map (fun e => .removal e.address)
    ++ (if s.selfLeaseDue then [.selfLease] else [])
    ++ (if s.renewDue then [.renewTimerExpiry] else [])
    ++ (if s.suppressionDue then [.suppressionTimerExpiry] else [])
    ++ (if s.censusRetryDue then [.censusRetryTimerExpiry] else [])
    ++ (if s.capDue then [.cap] else [])
    ++ (if s.muteWaitDue then [.muteWaitExpiry] else [])
    ++ (if s.recoveryDue then [.recoveryTimerExpiry] else [])

/-- A command put at place `n` of a list, or at its end. -/
def insertAt (c : Instr) : Nat → List Instr → List Instr
  | 0, l => c :: l
  | _ + 1, [] => [c]
  | n + 1, x :: xs => x :: insertAt c n xs

/-- Events of one tick in a free order (log 4): each one's place among those after it is a free value. -/
def arrange (fresh : Nat) : List Instr → List Instr
  | [] => []
  | [c] => [c]
  | c :: d :: rest =>
    let l := arrange fresh (d :: rest)
    insertAt c (Config.expiryPlace fresh l.length % (l.length + 1)) l

/-- One tick of the lease clock (R102): the counts advance, and the events they reach join the queue. While RESET
is held no count exists (log 21). -/
def leaseTick (s : State) : State :=
  if s.resetHeld then s
  else
    let s' := { advanceCounts s with fresh := s.fresh + 1 }
    { s' with pending := s.pending ++ arrange s.fresh s'.dueEvents }

end Sys2Proof.Machine
end

