-- ==== Sys2Proof/Machine/Lease.lean ====
section
/-! DEFINITION. The meanings of the lease clock's expiries (06, and the timers of 02, 05, 07, 09). An expiry that is
not due, or whose owner is no longer concerned, changes nothing (log 5). -/

namespace Sys2Proof.Machine

/-- CAP (R129): the cap timer reaches R and closes the window. -/
def execCap (s : State) : Host.Outcome State Fault Refusal :=
  .next (if s.capDue then enterMember s else s)

/-- LAPSE (R107). -/
def execLapse (a : Address) (s : State) : Host.Outcome State Fault Refusal :=
  .next (if s.lapseDue a then lapseEntry a s else s)

/-- REMOVAL (R108). -/
def execRemoval (a : Address) (s : State) : Host.Outcome State Fault Refusal :=
  .next (if s.removalDue a then removeEntry a s else s)

/-- The self lease, when it is reached (R110). -/
def takeSelfLease (s : State) : State := if s.selfLeaseDue then enterIsolated false s else s

/-- SELF_LEASE (R110). -/
def execSelfLease (s : State) : Host.Outcome State Fault Refusal := .next (takeSelfLease s)

/-- The renew timer becomes due; a MEMBER that holds or wants current queues a RENEW (R105). -/
def renewExpires (s : State) : State :=
  let s' := { s with renewTimer := .due }
  if decide (s.mode = .member) && s.holdsOrWants then queueIntent .renew s' else s'

/-- RENEW_TIMER_EXPIRY (R105). -/
def execRenewTimerExpiry (s : State) : Host.Outcome State Fault Refusal :=
  .next (if s.renewDue then renewExpires s else s)

/-- SUPPRESSION_TIMER_EXPIRY (R37): suppression lifts and a recompute follows at once. -/
def execSuppressionTimerExpiry (s : State) : Host.Outcome State Fault Refusal :=
  .next (if s.suppressionDue then recompute (liftSuppression s) else s)

/-- The census retry timer expires: in START and ISOLATED a CENSUS is queued afresh (R93). -/
def censusRetryExpires (s : State) : State :=
  let s' := { s with censusRetry := none }
  if s.mode = .start ∨ s.mode = .isolated then queueIntent .census s' else s'

/-- CENSUS_RETRY_TIMER_EXPIRY (R93). -/
def execCensusRetryTimerExpiry (s : State) : Host.Outcome State Fault Refusal :=
  .next (if s.censusRetryDue then censusRetryExpires s else s)

/-- The end of the mute wait, when it is reached (R158). -/
def endMuteWait (s : State) : State := if s.muteWaitDue then enterStart s else s

/-- MUTE_WAIT_EXPIRY (R158). -/
def execMuteWaitExpiry (s : State) : Host.Outcome State Fault Refusal := .next (endMuteWait s)

end Sys2Proof.Machine
end

