-- ==== Sys2Proof/Machine/Line.lean ====
section
/-! DEFINITION. The meanings of the share line's events (03, 04, 07). An event given where its cause does not hold
changes nothing (log 5). -/

namespace Sys2Proof.Machine

/-- The wake detector finds a filtered falling edge (R134): the station wakes, and its line interface classifies that
low from its beginning; of a frame it opens, the station is no receiver (R82). -/
def busWake (s : State) : State :=
  if s.wakeDetectorOn && s.wakeArmed then { wakeStation s with lineLow := some (.seen false) } else s

/-- BUS_WAKE (R134). -/
def execBusWake (s : State) : Host.Outcome State Fault Refusal := .next (busWake s)

/-- The line watched by the wake detector has been high for `high` more: armed at 24T (R134). -/
def armWakeDetector (high : Nat) (s : State) : State :=
  if s.wakeDetectorOn then
    let s' := addHigh high s
    { s' with wakeArmed := s.wakeArmed || decide (Config.joinQuiet ≤ s'.highTime) }
  else s

/-- WAKE_DETECTOR_ARMED (R134). -/
def execWakeDetectorArmed (high : Nat) (s : State) : Host.Outcome State Fault Refusal :=
  .next (armWakeDetector high s)

/-- The line has been high for `high` more: in START the join condition becomes true at 24T (R126). -/
def joinQuiet (high : Nat) (s : State) : State :=
  if s.lineOn then
    let s' := addHigh high s
    if decide (s.mode = .start) && !s.joinCondition && s.lineHigh && decide (Config.joinQuiet ≤ s'.highTime) then
      queueIntent .census { s' with joinCondition := true }
    else s'
  else s

/-- JOIN_QUIET (R126). -/
def execJoinQuiet (high : Nat) (s : State) : Host.Outcome State Fault Refusal := .next (joinQuiet high s)

/-- The states that may send (R69). -/
def State.maySend (s : State) : Bool := s.lineOn && decide (s.mode ≠ .mute)

/-- The line has been high for `high` more: when the wait has passed, the outbox is served (R73, R74). -/
def breakStart (high : Nat) (s : State) : State :=
  if s.maySend && !s.sending then
    let s' := addHigh high s
    if s'.waitPassed then serveOutbox s' else s'
  else s

/-- BREAK_START (R74). -/
def execBreakStart (high : Nat) (s : State) : Host.Outcome State Fault Refusal := .next (breakStart high s)

/-- The line is still low, `low` after the own break start: from 8T the station drives it no longer, and at 16T the own
frame ends as voided and the station follows that low (R75). Once the line has risen there is no such low. -/
def breakLimit (low : Nat) (s : State) : State :=
  match s.opening with
  | none => s
  | some o =>
    if o.role = .sender then
      let ownTime := max o.ownTime low
      if Config.breakLimit ≤ ownTime then followBreak (takeOutcome .voided s)
      else { s with opening := some { o with ownTime := ownTime } }
    else s

/-- BREAK_LIMIT (R75). -/
def execBreakLimit (low : Nat) (s : State) : Host.Outcome State Fault Refusal := .next (breakLimit low s)

/-- A filtered low, of class `c` so far, goes on: from 6T it is a break (R65), before that its falling edge alone is known
(R73). In DORMANT no low is classified, and the wake detector's quiet starts again (R134). -/
def lowGoesOn (c : PulseClass) (s : State) : State :=
  if s.lineOn then (if c = .breakLow then breakRecognised s else fallingEdge s)
  else if !s.resetHeld && decide (s.mode = .dormant) then { s with lineLow := some .unseen, highTime := 0 }
  else s

/-- A filtered low that has lasted `low` so far. Its falling edge is one that an armed wake detector finds (R134). -/
def breakSeen (low : Nat) (s : State) : State :=
  match classify low with
  | none => s
  | some c => lowGoesOn c (busWake s)

/-- BREAK (R65). -/
def execBreak (low : Nat) (s : State) : Host.Outcome State Fault Refusal := .next (breakSeen low s)

/-- A low of class `c` outside any frame ends that was no break, or whose beginning was not seen (R64, R73): every quiet
starts again from its rising edge. A low inside a frame is none. -/
def lowEnds (c : PulseClass) (s : State) : State :=
  if s.lineOn then
    if s.followed.isNone && (decide (c ≠ .breakLow) || decide (s.lineLow = some .unseen)) then
      { s with highTime := 0, lineLow := none }
    else s
  else if !s.resetHeld && decide (s.mode = .dormant) then { s with highTime := 0, lineLow := none }
  else s

/-- A filtered low of `width` ends; one shorter than T/2 is removed by the filter. Its falling edge is one that an armed
wake detector finds (R134). -/
def strayLow (width : Nat) (s : State) : State :=
  match classify width with
  | none => s
  | some c => lowEnds c (busWake s)

/-- STRAY_LOW (R73). -/
def execStrayLow (width : Nat) (s : State) : Host.Outcome State Fault Refusal := .next (strayLow width s)

/-- The sender's own reading of its frame so far (R77): arbitration is lost at the first mismatch, when that is a
long mark where a short one was sent in the header. -/
def lostArbitration (lows : List Low) (s : State) : State :=
  match s.followed with
  | none => s
  | some r =>
    match r.role, r.sent, r.mismatch with
    | .sender, some sent, none =>
      match mismatchFound sent.marks Config.frameEnd (filterLows lows) with
      | some (.lost, k) => loseArbitration r sent k (filterLows lows) s
      | _ => s
    | _, _, _ => s

/-- LOST (R77). -/
def execLost (lows : List Low) (s : State) : Host.Outcome State Fault Refusal := .next (lostArbitration lows s)

/-- A followed frame with the record `r` has come to `now` (R69): a break inside it ends it at the moment that low has
lasted 6T (R71); at the end of its VOID slot it ends of itself (R49). DESIGN CHOICE (log 39): where a low comes to 6T
exactly at the judgement point, 95T after the break end, no rule orders the break and the judgement; a report that goes
through that moment takes the break first, so no verdict is reached and the void run stands. -/
def hearTo (r : FrameRecord) (now : Nat) (lows : List Low) (s : State) : State :=
  match breakInside now lows with
  | some l => followBreak (followTo r (max r.elapsed (l.start + Config.breakWidth - 1)) lows s)
  | none =>
    if Config.frameEnd ≤ now then endFollowed (followTo r now lows s) else followTo r now lows s

/-- A frame of another station has come to `reached`, by its filtered lows. -/
def heardTo (reached : Nat) (lows : List Low) (s : State) : State :=
  match s.followed with
  | none => s
  | some r =>
    if decide (r.role = .sender) || !s.lineOn then s
    else hearTo r (max r.elapsed reached) lows s

/-- HEARD_FRAME's effect, at a station that is not the frame's sender. -/
def heardFrame (reached : Nat) (lows : List Low) (s : State) : State := heardTo reached (filterLows lows) s

/-- HEARD_FRAME (R49). -/
def execHeardFrame (report : FrameReport) (s : State) : Host.Outcome State Fault Refusal :=
  .next (heardFrame report.reached report.lows s)

/-- The own frame has come to `now`, up to a break inside it: that ends it as voided at the moment the low has lasted 6T
(R81), and at its end the frame takes its outcome (R80). After a loss on the way it is the winner's frame, which the
station follows (R77; log 19). -/
def ownTo (r : FrameRecord) (sent : SentFrame) (now : Nat) (lows : List Low) (s : State) : State :=
  match breakInside now lows with
  | some l =>
    let s' := sendTo r sent (max r.elapsed (l.start + Config.breakWidth - 1)) lows s
    if s'.sending then followBreak (takeOutcome .voided s') else heardTo now lows s'
  | none =>
    let s' := sendTo r sent now lows s
    match s'.frame with
    | some r' =>
      if r'.role ≠ .sender then heardTo now lows s'
      else if Config.frameEnd ≤ now then concludeOwn r' sent s'
      else s'
    | none => s'

/-- OWN_FRAME_OUTCOME's effect, at the frame's sender. -/
def ownFrameOutcome (reached : Nat) (lows : List Low) (s : State) : State :=
  match s.followed with
  | none => s
  | some r =>
    match r.role, r.sent with
    | .sender, some sent => ownTo r sent (max r.elapsed reached) (filterLows lows) s
    | _, _ => s

/-- The renew timer expires at the moment at which `outcome` hands on the own frame's outcome, and its RENEW comes to the
outbox behind that outcome and stays (R101, R105; log 32, 33). Where no outcome is handed on, or the timer has not run
for R, there is no such moment. -/
def withRenewBehind (outcome : State → State) (s : State) : State :=
  let t := outcome { s with renewTimer := .due }
  if s.renewDue && s.sending && !t.sending then
    if decide (s.mode = .member) && s.holdsOrWants && decide (t.mode = .member) then queueIntent .renew t else t
  else outcome s

/-- The own silence age reaches P at the moment at which `outcome` hands on the own frame's outcome, and the self lease is
taken behind that outcome: the entry clears the collection (R101; log 32). Where no outcome is handed on,
the age has not reached P, or the station is in MEMBER no more, there is no such entry (R110). -/
def withSelfLeaseBehind (outcome : State → State) (s : State) : State :=
  let t := outcome s
  if s.selfLeaseDue && s.sending && !t.sending && decide (t.mode = .member) then enterIsolated false t else t

/-- OWN_FRAME_OUTCOME's effect, with what is taken behind the outcome (R101). -/
def outcomeWith (behind : Behind) (outcome : State → State) (s : State) : State :=
  match behind with
  | .nothing => outcome s
  | .renewTimer => withRenewBehind outcome s
  | .selfLease => withSelfLeaseBehind outcome s

/-- OWN_FRAME_OUTCOME (R80). -/
def execOwnFrameOutcome (report : OwnFrameReport) (s : State) : Host.Outcome State Fault Refusal :=
  .next (outcomeWith report.behind (ownFrameOutcome report.reached report.lows) s)

/-- The census window is open in LEARNING (R128, R129). -/
def State.windowOpen (s : State) : Bool :=
  !s.resetHeld && decide (s.mode = .learning) && s.windowCap.isSome

/-- The line has been high for `high` more: an open census window closes at 40T (R129, R130). -/
def quietClose (high : Nat) (s : State) : State :=
  if s.lineOn then
    let s' := addHigh high s
    if s.windowOpen && s.lineHigh && s.frame.isNone && decide (Config.censusQuiet ≤ s'.highTime) then enterMember s' else s'
  else s

/-- QUIET_CLOSE (R129). -/
def execQuietClose (high : Nat) (s : State) : Host.Outcome State Fault Refusal := .next (quietClose high s)

end Sys2Proof.Machine
end

