-- ==== Sys2Proof/Machine/Port.lean ====
section
/-! DEFINITION. The meanings of the local port requests (10), with their reply data (R178). -/

namespace Sys2Proof.Machine

/-- A quantity of STATUS: every one reads 0 in UNCONFIGURED (R163). -/
def State.reported (s : State) (n : Nat) : Nat := if s.mode = .unconfigured then 0 else n

/-- The thirteen data bytes of STATUS (R163, R178). -/
def State.statusData (s : State) : List Byte :=
  [dataByte s.mode.code, dataByte s.faultCause.code, dataByte s.address.toNat, dataByte (s.reported s.holding),
    dataByte (s.reported s.level), dataByte (s.reported s.advertised), dataByte (s.reported s.requested),
    dataByte (s.reported s.target)]
    ++ dataWord (s.reported s.rosterSum)
    ++ [if s.mode = .unconfigured then 0 else s.flagsByte]
    ++ dataWord s.latch.toNat

/-- The six data bytes of ENTRY (R164, R178). -/
def State.entryData (s : State) (a : Address) : List Byte :=
  match findEntry a s.roster with
  | none => [0, 0, 0, 0, 0, 0]
  | some e => [1, dataByte e.status.code, dataByte e.holding, dataByte e.demand] ++ dataWord e.age

/-- The seven data bytes of OPTIONS (R165, R178). -/
def State.optionsData (s : State) : List Byte :=
  s.record.bytes ++ [dataByte s.cause.code, dataByte s.address.toNat]

/-- STATUS (R163). -/
def execStatus (s : State) : Host.Outcome State Fault Refusal :=
  .next (transaction (fun s => answer .ok s.statusData s) s)

/-- The effect of ENTRY: an address of 16 or more is refused (R164). -/
def entryRequest (address : Byte) (s : State) : State :=
  if address.toNat < 16 then answer .ok (s.entryData (BitVec.ofNat 4 address.toNat)) s
  else answer .refused [] s

/-- ENTRY (R164). -/
def execEntry (address : Byte) (s : State) : Host.Outcome State Fault Refusal :=
  .next (transaction (entryRequest address) s)

/-- OPTIONS (R165). -/
def execOptions (s : State) : Host.Outcome State Fault Refusal :=
  .next (transaction (fun s => answer .ok s.optionsData s) s)

/-- The requested demand takes the value `r` (R24, R166): a change lifts claim suppression, the advertised demand
follows where the state and droop hold let it, with one recompute, and then the notice (R26, R37). -/
def setRequested (r : Nat) (s : State) : State :=
  if r = s.requested then s
  else renewOnRise s (announceDemand s (ownPass s (liftSuppression { s with requested := r })))

/-- The effect of DEMAND (R166): refused in UNCONFIGURED, else clipped to C (R3). -/
def demandRequest (d : Byte) (s : State) : State :=
  if s.mode = .unconfigured then answer .refused [] s
  else
    answer (if s.ceiling < d.toNat then .clipped else .ok) [] (setRequested (min d.toNat s.ceiling) s)

/-- DEMAND (R166). -/
def execDemand (d : Byte) (s : State) : Host.Outcome State Fault Refusal :=
  .next (transaction (demandRequest d) s)

/-- The effect of CLEAR: in FAULT, the cause is cleared and START entered; refused elsewhere (R153, R167). -/
def clearRequest (s : State) : State :=
  if s.mode = .fault then answer .ok [] (enterStart s) else answer .refused [] s

/-- CLEAR (R153). -/
def execClear (s : State) : Host.Outcome State Fault Refusal := .next (transaction clearRequest s)

/-- The condition under which SLEEP is taken (R132). -/
def State.maySleep (s : State) : Bool :=
  decide (s.mode = .member) && decide (s.holding = 0) && decide (s.requested = 0) && s.outbox.isEmpty

/-- The effect of SLEEP (R132, R167). -/
def sleepRequest (s : State) : State :=
  if s.maySleep then answer .ok [] (enterDormant s) else answer .refused [] s

/-- SLEEP (R132). -/
def execSleep (s : State) : Host.Outcome State Fault Refusal := .next (transaction sleepRequest s)

/-- The effect of RELEARN: taken in MEMBER and ISOLATED (R168). -/
def relearnRequest (s : State) : State :=
  if s.mode = .member ∨ s.mode = .isolated then answer .ok [] (enterIsolated true s)
  else answer .refused [] s

/-- RELEARN (R168). -/
def execRelearn (s : State) : Host.Outcome State Fault Refusal := .next (transaction relearnRequest s)

/-- The condition under which PROGRAM is accepted (R123). -/
def State.mayProgram (s : State) : Bool :=
  decide (s.mode = .unconfigured) && decide (s.cause = .blank) && !s.written

/-- The effect of PROGRAM (R123, R169): the write starts and the written flag is set; nothing else changes. -/
def programRequest (r : Record) (s : State) : State :=
  if s.mayProgram then answer .ok [] { s with writing := some r, written := true }
  else answer .refused [] s

/-- PROGRAM (R169). -/
def execProgram (b1 b2 b3 b4 b5 : Byte) (s : State) : Host.Outcome State Fault Refusal :=
  .next (transaction (programRequest ⟨b1, b2, b3, b4, b5⟩) s)

/-- The write of the option record completes: the five bytes stand in the one-time memory as given (R123). -/
def completeWrite (s : State) : State :=
  match s.writing with
  | some r => { s with oneTime := r, writing := none }
  | none => s

/-- PROGRAM_WRITE_COMPLETE (R123). -/
def execProgramWriteComplete (s : State) : Host.Outcome State Fault Refusal := .next (completeWrite s)

/-- The effect of TAKE: the highest-priority unmasked kind is named and removed, or NONE (R171). -/
def takeRequest (s : State) : State :=
  match s.nextEvent with
  | some k => answer .ok [dataByte k.code] { s with latch := s.latch &&& ~~~k.word }
  | none => answer .ok [0] s

/-- TAKE (R171). -/
def execTake (s : State) : Host.Outcome State Fault Refusal := .next (transaction takeRequest s)

/-- The ten bits of the mask word; the six bits that name no kind have no effect (R172, R179). -/
def maskWord (high low : Byte) : BitVec 10 := (high ++ low).setWidth 10

/-- MASK (R172). -/
def execMask (high low : Byte) (s : State) : Host.Outcome State Fault Refusal :=
  .next (transaction (fun s => answer .ok [] { s with mask := maskWord high low }) s)

/-- The effect of an unknown code byte (R162). A code that names a request is none: its transaction goes on
(log 20). -/
def badRequest (code : Byte) (s : State) : State :=
  if codeNamesRequest code then s else transaction (answer .badRequest []) s

/-- BAD_REQUEST (R162). -/
def execBadRequest (code : Byte) (s : State) : Host.Outcome State Fault Refusal := .next (badRequest code s)

/-- SELECT_RISES_EARLY (R162): the request is discarded and no reply value is fixed; a station in DORMANT is still
woken (R135). -/
def execSelectRisesEarly (s : State) : Host.Outcome State Fault Refusal :=
  .next (transaction (fun s => { s with reply := [] }) s)

end Sys2Proof.Machine
end

