-- ==== Sys2Proof/Machine/Load.lean ====
section
/-! DEFINITION. The meanings of the load side's events (08): ramp steps, samples, and SUPPLY-LOW. -/

namespace Sys2Proof.Machine

/-- RAMP_STEP (R138): one unit up, a level change. -/
def execRampStep (s : State) : Host.Outcome State Fault Refusal :=
  .next (if s.rampDue then setLevel (s.level + 1) s else s)

/-- The code of a sample: the sensed units, saturating at 255 (R1, R139). -/
def sampleCode (sensed : Nat) : Nat := min Config.maxUnits sensed

/-- A valid sample judged for under-current, at a level of 3 or more (R141). -/
def judgeUnder (code : Nat) (s : State) : State :=
  if s.level < 3 then s
  else if code < s.level - 2 then
    let s' := { s with underRun := min Config.underSamples (s.underRun + 1) }
    if decide (s.underRun < Config.underSamples) && decide (s'.underRun = Config.underSamples) && !s.under then
      latchEvent .under { s' with under := true }
    else s'
  else { s with underRun := 0, under := false }

/-- The event of the sample's moment that is taken between its overdraw and the report: what its own command does (R112,
R154, R159; log 33). -/
def takeBetween (between : Between) (s : State) : State :=
  match between with
  | .nothing => s
  | .selfLease => takeSelfLease s
  | .clear => transaction clearRequest s
  | .muteWait => endMuteWait s

/-- A valid sample judged for overdraw: the fourth in a row above the level + 1 is reported (R140). The report enters
FAULT at that sample (R150), behind the event that is taken first at the same moment (R112, R154, R159; log 33). -/
def judgeOverdraw (between : Between) (code : Nat) (s : State) : State :=
  if s.level + 1 < code then
    if s.overdrawRun + 1 < Config.overdrawSamples then { s with overdrawRun := s.overdrawRun + 1 }
    else enterFault .overdraw (takeBetween between { s with overdrawRun := 0 })
  else { s with overdrawRun := 0 }

/-- A sample is judged (R139): while the settle count is above 0 it is invalid and lowers the count by 1; else it is
judged against the level as it stands. DESIGN CHOICE (log 36): the sample itself is not kept; State holds no latest sample,
which 00_scope.md names among what the load sampler owns and section 8.2's list of what it holds does not. -/
def judgeSample (sensed : Nat) (between : Between) (s : State) : State :=
  if 0 < s.settle then { s with settle := s.settle - 1 }
  else judgeOverdraw between (sampleCode sensed) (judgeUnder (sampleCode sensed) s)

/-- A sample arrives, in the states in which the sampler runs (R139, R147). -/
def takeSample (sensed : Nat) (between : Between) (s : State) : State :=
  if s.samplerOn then judgeSample sensed between s else s

/-- SAMPLE (R139). -/
def execSample (sensed : Sensed) (s : State) : Host.Outcome State Fault Refusal :=
  .next (takeSample sensed.units sensed.between s)

/-- A filtered assertion of SUPPLY-LOW (R143). -/
def assertDroop (s : State) : State :=
  let s1 := { s with
    supplyLow := true
    droopHold := true
    recovery := none
    outbox := (s.outbox.cancel fun k => decide (k = .claim)).put .claim none }
  let s2 := setHolding 0 s1
  let s3 := if 0 < s.holding then queueIntent .yield s2 else s2
  latchEvent .droop (announceDemand s (ownPass s s3))

/-- DROOP_ASSERTION (R143): taken while the monitor runs, when the filtered state changes (R142). -/
def execDroopAssertion (s : State) : Host.Outcome State Fault Refusal :=
  .next (if s.droopMonitorOn && !s.supplyLow then assertDroop s else s)

/-- A filtered deassertion of SUPPLY-LOW: with droop hold set, the recovery timer starts (R144). -/
def deassertDroop (s : State) : State :=
  { s with supplyLow := false, recovery := if s.droopHold then some 0 else s.recovery }

/-- DROOP_DEASSERTION (R144). -/
def execDroopDeassertion (s : State) : Host.Outcome State Fault Refusal :=
  .next (if s.droopMonitorOn && s.supplyLow then deassertDroop s else s)

/-- Droop hold clears (R144): the advertised demand returns, the allocator recomputes, then the notice. DESIGN CHOICE
(log 38): with the renew timer due in MEMBER, R105 queues a RENEW beside the CLAIM that takes the notice, while the
examples of 8.5 (at 218.4 ms) and 11.4 (from 188.1 ms on) show the CLAIM alone; R105 is followed. -/
def clearDroopHold (s : State) : State :=
  renewOnRise s (announceDemand s (entryPass s { s with droopHold := false, recovery := none }))

/-- RECOVERY_TIMER_EXPIRY (R144). -/
def execRecoveryTimerExpiry (s : State) : Host.Outcome State Fault Refusal :=
  .next (if s.recoveryDue then clearDroopHold s else s)

end Sys2Proof.Machine
end

