-- ==== Sys2Proof/Machine/Reset.lean ====
section
/-! DEFINITION. The meanings of RESET and of the read event (07 section 7.1). -/

namespace Sys2Proof.Machine

/-- RESET (R118): RESET is driven low or power is lost; everything ends at once, with no outcome. -/
def execReset (s : State) : Host.Outcome State Fault Refusal := .next (holdReset s)

/-- READ_EVENT (R118): RESET is released, or power-on completes. It takes place only while RESET is held. -/
def execReadEvent (pins : ReadPins) (s : State) : Host.Outcome State Fault Refusal :=
  .next (if s.resetHeld then releaseReset pins s else s)

end Sys2Proof.Machine
end

