-- ==== Sys2Proof/Machine/Dispatch.lean ====
section
/-! DEFINITION. One arm for each command of the table. -/

namespace Sys2Proof.Machine

def exec (i : Instr) (s : State) : Host.Outcome State Fault Refusal :=
  match i with
  | .reset => Sys2Proof.Machine.execReset s
  | .readEvent pins => Sys2Proof.Machine.execReadEvent pins s
  | .status => Sys2Proof.Machine.execStatus s
  | .entry address => Sys2Proof.Machine.execEntry address s
  | .options => Sys2Proof.Machine.execOptions s
  | .demand d => Sys2Proof.Machine.execDemand d s
  | .clear => Sys2Proof.Machine.execClear s
  | .sleep => Sys2Proof.Machine.execSleep s
  | .relearn => Sys2Proof.Machine.execRelearn s
  | .program b1 b2 b3 b4 b5 => Sys2Proof.Machine.execProgram b1 b2 b3 b4 b5 s
  | .programWriteComplete => Sys2Proof.Machine.execProgramWriteComplete s
  | .take => Sys2Proof.Machine.execTake s
  | .mask high low => Sys2Proof.Machine.execMask high low s
  | .badRequest code => Sys2Proof.Machine.execBadRequest code s
  | .selectRisesEarly => Sys2Proof.Machine.execSelectRisesEarly s
  | .busWake => Sys2Proof.Machine.execBusWake s
  | .wakeDetectorArmed high => Sys2Proof.Machine.execWakeDetectorArmed high s
  | .joinQuiet high => Sys2Proof.Machine.execJoinQuiet high s
  | .breakStart high => Sys2Proof.Machine.execBreakStart high s
  | .breakLimit low => Sys2Proof.Machine.execBreakLimit low s
  | .breakPulse low => Sys2Proof.Machine.execBreak low s
  | .strayLow width => Sys2Proof.Machine.execStrayLow width s
  | .lost lows => Sys2Proof.Machine.execLost lows s
  | .heardFrame report => Sys2Proof.Machine.execHeardFrame report s
  | .ownFrameOutcome report => Sys2Proof.Machine.execOwnFrameOutcome report s
  | .quietClose high => Sys2Proof.Machine.execQuietClose high s
  | .cap => Sys2Proof.Machine.execCap s
  | .lapse address => Sys2Proof.Machine.execLapse address s
  | .removal address => Sys2Proof.Machine.execRemoval address s
  | .selfLease => Sys2Proof.Machine.execSelfLease s
  | .renewTimerExpiry => Sys2Proof.Machine.execRenewTimerExpiry s
  | .suppressionTimerExpiry => Sys2Proof.Machine.execSuppressionTimerExpiry s
  | .censusRetryTimerExpiry => Sys2Proof.Machine.execCensusRetryTimerExpiry s
  | .muteWaitExpiry => Sys2Proof.Machine.execMuteWaitExpiry s
  | .rampStep => Sys2Proof.Machine.execRampStep s
  | .sample sensed => Sys2Proof.Machine.execSample sensed s
  | .droopAssertion => Sys2Proof.Machine.execDroopAssertion s
  | .droopDeassertion => Sys2Proof.Machine.execDroopDeassertion s
  | .recoveryTimerExpiry => Sys2Proof.Machine.execRecoveryTimerExpiry s

end Sys2Proof.Machine
end

