-- ==== Sys2Proof/Safety.lean ====
section
/-! DEFINITION. What a safe station is: the conditions that the spec's prose says hold at every moment, as predicates
on one state, and the union of them that a run keeps. -/

namespace Sys2Proof.Machine

/-- The roster is a table: one entry for each address, in ascending order, and no replica at the own address (R4,
R7). -/
def State.RosterInv (s : State) : Prop := rising s.replicas = true ∧ findEntry s.address s.replicas = none

/-- A receiver's verdict of ACK stands over a frame of another station alone (R43, R46). -/
def State.VerdictInv (s : State) : Prop :=
  ∀ r ∈ s.frame, r.role = .receiver → r.verdict = some .ack → ∀ f ∈ r.fields, f.sender ≠ s.address

/-- The output level never stands above the ramp target, which is the own holding (R136). -/
def State.OutputInv (s : State) : Prop := s.rampTarget = s.holding ∧ s.level ≤ s.holding

/-- The own holding is 0 in every state other than MEMBER, and in MEMBER whenever droop hold is set (R7). -/
def State.HoldingInv (s : State) : Prop := s.holding = 0 ∨ (s.mode = .member ∧ s.droopHold = false)

/-- The station is in FAULT exactly while its fault cause is other than none (R149). -/
def State.FaultInv (s : State) : Prop := s.mode = .fault ↔ s.faultCause ≠ .none

/-- The runs and counts stay in their ranges (R5, R6, R48, 08 section 8.2). -/
def State.CountInv (s : State) : Prop :=
  s.voidRun ≤ Config.maxVoidRun ∧ s.settle ≤ Config.settleSamples ∧ s.overdrawRun < Config.overdrawSamples
    ∧ s.underRun ≤ Config.underSamples ∧ s.ownAge ≤ Config.maxAge ∧ ∀ e ∈ s.replicas, e.age ≤ Config.maxAge

/-- An intent's attempt count stays below 8: at 8 its kind's handling has been applied (R90). -/
def attemptsBelowLimit (i : Option Intent) : Prop := ∀ x ∈ i, x.attempts < Config.maxAttempts

/-- The outbox keeps to its law (R84): every attempt count below 8, an intent in flight exactly while a frame of the
station's own is on the line, and never both a break and a frame's record (R72). -/
def State.OutboxInv (s : State) : Prop :=
  attemptsBelowLimit s.outbox.yield ∧ attemptsBelowLimit s.outbox.renew ∧ attemptsBelowLimit s.outbox.claim
    ∧ attemptsBelowLimit s.outbox.census ∧ (∀ f ∈ s.outbox.inFlight, f.intent.attempts < Config.maxAttempts)
    ∧ (s.outbox.inFlight.isSome = s.sending) ∧ (s.opening = none ∨ s.frame = none)

/-- Every current quantity lies in 0..255 (R1). -/
def State.UnitInv (s : State) : Prop :=
  s.requested ≤ Config.maxUnits ∧ s.target ≤ Config.maxUnits ∧ s.holding ≤ Config.maxUnits
    ∧ s.level ≤ Config.maxUnits ∧ s.rampTarget ≤ Config.maxUnits
    ∧ (∀ e ∈ s.replicas, e.holding ≤ Config.maxUnits ∧ e.demand ≤ Config.maxUnits)
    ∧ (∀ r ∈ s.followed, ∀ f ∈ r.sent, f.fields.holding ≤ Config.maxUnits)

/-- While RESET is held, and in UNCONFIGURED, the station holds, wants, sends and follows nothing (R19, R122). -/
def State.SilentInv (s : State) : Prop :=
  (s.resetHeld = true → s.mode = .unconfigured ∧ s.writing = none)
    ∧ (s.mode = .unconfigured →
        s.replicas = [] ∧ s.holding = 0 ∧ s.requested = 0 ∧ s.target = 0 ∧ s.opening = none ∧ s.frame = none
          ∧ s.lineLow = none ∧ s.outbox = Outbox.empty)

end Sys2Proof.Machine
end

