-- ==== Sys2Proof/WellFormed.lean ====
section
/-! DEFINITION. Which commands are well formed: operands that can stand for what the command names. `exec` runs every
command; one that is not well formed names an event that does not hold, and changes nothing or what its operands
say (log 5, 19, 20). -/

namespace Sys2Proof

/-- The lows of one frame, as SHARE can show them: in order, with a high between them. -/
def lowsWellFormed : List Low → Bool
  | [] => true
  | [l] => decide (1 ≤ l.width)
  | l :: m :: rest => decide (1 ≤ l.width) && decide (l.start + l.width < m.start) && lowsWellFormed (m :: rest)

/-- The lows of a frame that no break cuts short, once filtered (R64, R71). -/
def frameLowsWellFormed (lows : List Low) : Bool :=
  lowsWellFormed lows && !Machine.breakAmong (Machine.filterLows lows)

/-- A command is well formed. -/
def Instr.wellFormed : Instr → Bool
  | .reset => true
  | .readEvent _ => true
  | .status => true
  | .entry _ => true
  | .options => true
  | .demand _ => true
  | .clear => true
  | .sleep => true
  | .relearn => true
  | .program _ _ _ _ _ => true
  | .programWriteComplete => true
  | .take => true
  | .mask _ _ => true
  | .badRequest code => !Machine.codeNamesRequest code
  | .selectRisesEarly => true
  | .busWake => true
  | .wakeDetectorArmed _ => true
  | .joinQuiet _ => true
  | .breakStart _ => true
  | .breakLimit _ => true
  | .breakPulse low => decide (Machine.classify low ≠ none)
  | .strayLow width => decide (Machine.classify width ≠ none)
  | .lost lows => frameLowsWellFormed lows
  | .heardFrame report => frameLowsWellFormed report.lows
  | .ownFrameOutcome report => frameLowsWellFormed report.lows
  | .quietClose _ => true
  | .cap => true
  | .lapse _ => true
  | .removal _ => true
  | .selfLease => true
  | .renewTimerExpiry => true
  | .suppressionTimerExpiry => true
  | .censusRetryTimerExpiry => true
  | .muteWaitExpiry => true
  | .rampStep => true
  | .sample _ => true
  | .droopAssertion => true
  | .droopDeassertion => true
  | .recoveryTimerExpiry => true

end Sys2Proof
end

