-- ==== Sys2Proof/Certificates/Slice0/Obligations.lean ====
section
/-! DEFINITION. The statements for the provers: what the commands do, what they leave alone, and what every step
keeps. Each docstring names the rules of spec/ it rests on; a clause that rests on a choice of the model names the
log entry. -/

open Sys2Proof Sys2Proof.Machine

/-- `t` differs from `s` at most in what a recompute with its balance action writes (R30, R33, R34). -/
def allocatorOnly (s t : State) : Prop :=
  t = { s with
    target := t.target, holding := t.holding, rampTarget := t.rampTarget, level := t.level, settle := t.settle
    overdrawRun := t.overdrawRun, underRun := t.underRun, under := t.under, latch := t.latch
    suppression := t.suppression, outbox := t.outbox }

/-- The intents waiting in the collection, kind by kind, and the backoff flag. -/
def outboxHolds (o : Outbox) (yield renew claim census : Option Intent) (backoff : Bool) : Prop :=
  o.yield = yield ∧ o.renew = renew ∧ o.claim = claim ∧ o.census = census ∧ o.backoff = backoff

/-- The collection's place of a kind after a queuing (R85): a new record with attempt count 0, or the record there
with its covered mark cleared. -/
def queuedInto (i : Option Intent) : Option Intent := some { (i.getD ⟨0, false, false⟩) with covered := false }

/-- The role a station keeps when it leaves the listening states: a receiver is an onlooker from then on, any other role
stays (R42, R69). -/
def onlookerRole : Role → Role
  | .sender => .sender
  | .receiver => .onlooker
  | .onlooker => .onlooker

/-- The station `s` with no receiver left (R42, R69, R151, R156): in the opening and in the frame's record a receiver is
an onlooker, and a low on the line whose falling edge was seen opens no frame to a receiver any more. -/
def receivesNoMore (s : State) : State :=
  { s with
    opening := s.opening.map fun o => { o with role := onlookerRole o.role }
    frame := s.frame.map fun r => { r with role := onlookerRole r.role }
    lineLow := match s.lineLow with
      | none => none
      | some .unseen => some .unseen
      | some (.seen _) => some (.seen false) }

/-- What every entry to FAULT leaves (R151), from the state `s` it is entered from: the cause recorded, holding, ramp,
level and advertised demand 0, the receiver an onlooker (of the frame on the line and of one that a low on the line
may open: R42, `receivesNoMore`), the outbox down to a YIELD (queued when the holding was above 0) with an intent in flight cancelled
unless it is a YIELD, FAULT latched, everything else as it was. -/
def faultEntered (cause : FaultCause) (s t : State) : Prop :=
  t.holding = 0 ∧ t.rampTarget = 0 ∧ t.level = 0 ∧ t.target = 0 ∧ t.advertised = 0 ∧
  outboxHolds t.outbox (if 0 < s.holding then queuedInto s.outbox.yield else s.outbox.yield) none none none
    s.outbox.backoff ∧
  t.outbox.inFlight = (s.outbox.inFlight.map fun f => if f.kind = .yield then f else { f with cancelled := true }) ∧
  t.latched .fault = true ∧ (0 < s.holding → t.latched .output = true) ∧
  allocatorOnly (receivesNoMore { s with
    mode := .fault, faultCause := cause, windowCap := none, muteWait := none, joinCondition := false
    censusRetry := none }) t

/-- A change of the advertised demand is left to an intent, in the order of R86: a YIELD if one is present, else a CLAIM
that carries the notice, else a RENEW that no earlier break covers. -/
def announcing (o : Outbox) : Prop :=
  o.yield.isSome = true ∨
  (o.yield = none ∧ ∃ i, o.claim = some i ∧ i.notice = true) ∨
  (o.yield = none ∧ o.claim = none ∧ ∃ i, o.renew = some i ∧ i.covered = false)

/-- What a counted failure of the intent `f` in flight does at the outbox (R89 to R94), from `s` to `t`: nothing is in
flight and the backoff flag is set. Below eight failures the intent is back with one more attempt, merged with one
queued meanwhile. At the eighth a CLAIM is abandoned, with ABANDONED latched, suppression set and its notice left to a
RENEW; a CENSUS is dropped and the census retry timer starts; a YIELD or RENEW stays with its count at 0. -/
def countedFailure (f : Flight) (s t : State) : Prop :=
  let notice := f.intent.notice || ((s.outbox.get f.kind).map Intent.notice).getD false
  t.outbox.inFlight = none ∧ t.outbox.backoff = true ∧
  (f.intent.attempts + 1 < 8 →
    t.outbox.get f.kind = some ⟨f.intent.attempts + 1, notice, false⟩ ∧ t.latch = s.latch ∧
    t.suppression = s.suppression) ∧
  (f.intent.attempts = 7 → f.kind = .claim →
    t.outbox.claim = none ∧ t.latch = s.latch ||| 64 ∧ t.suppression = some 0 ∧
    (notice = true → ∃ i, t.outbox.renew = some i ∧ i.covered = false)) ∧
  (f.intent.attempts = 7 → f.kind = .census →
    t.outbox.census = none ∧ t.censusRetry = some 0 ∧ t.latch = s.latch ∧ t.suppression = s.suppression) ∧
  (f.intent.attempts = 7 → f.kind = .yield ∨ f.kind = .renew →
    t.outbox.get f.kind = some ⟨0, notice, false⟩ ∧ t.latch = s.latch ∧ t.suppression = s.suppression)

/-- The frame on the line with the record `r` has come to `now` with no break inside it, and `lows` are its filtered
lows. -/
def reaches (r : FrameRecord) (reached : Nat) (now : Nat) (raw lows : List Low) : Prop :=
  now = max r.elapsed reached ∧ lows = filterLows raw ∧ breakInside now lows = none

/-- The lows stand in the order of their times, each over before the next begins. -/
def inOrder (lows : List Low) : Prop := lows.Pairwise fun x y => x.start + x.width ≤ y.start

/-- In lows in order, `l` is the one low so far that speaks of position `k`: the first from the position's start on,
begun in its window, with none in the lead before position 0 (R70). -/
def opensPosition (lows : List Low) (k : Nat) (l : Low) : Prop :=
  (lows.find? fun x => decide (20 + 30 * k ≤ x.start)) = some l ∧ l.start < 30 + 30 * k ∧
  (k = 0 → ∀ x ∈ lows, 20 ≤ x.start)

/-- The low on the line when the frame with the record `r` has come to `now` (log 6): the one of its filtered lows that
has begun and not ended. One that began since the record's last moment is noted in the station's present state (R42);
of one that was there already the note stays, which a record that begins with its break's end does not have. -/
def lowOnLine (s : State) (r : FrameRecord) (now : Nat) (lows : List Low) : Option LineLow :=
  match lows.find? fun l => decide (l.start ≤ now) && decide (now < l.start + l.width) with
  | none => none
  | some l =>
    if l.start ≤ r.elapsed then some ((if s.opening.isSome then none else s.lineLow).getD (.seen s.mode.listening))
    else some (.seen s.mode.listening)

/-- How long the line has been high when the frame with the record `r` has come to `now` (R73; log 6): 0 while one of
its filtered lows is on the line; otherwise the time since the last rising edge by then, or since the break end where
there is none, and no more than what had been counted and the time since gone by. -/
def quietInFrame (s : State) (r : FrameRecord) (now : Nat) (lows : List Low) : Nat :=
  if lows.any fun l => decide (l.start ≤ now) && decide (now < l.start + l.width) then 0
  else
    let rises := (lows.map fun l => l.start + l.width).filter fun e => decide (e ≤ now)
    min (now - rises.foldr max 0) (s.highTime + (now - r.elapsed))

/-- The sums over the roster of a station that has an own entry (R4, R6, R16, R45): the roster is its peers' entries and
the LIVE own one; the roster sum is the own holding and theirs; and the holdings of every entry but the one at an
address, with that one's holding (0 where there is none), are the roster sum. -/
def rosterAddsUp (s : State) : Prop :=
  s.roster = putEntry ⟨s.address, .live, s.holding, s.advertised, s.ownAge⟩ s.replicas ∧
  s.rosterSum = s.holding + (s.replicas.map Entry.holding).sum ∧
  ∀ a : Address, s.othersHolding a + ((findEntry a s.roster).map Entry.holding).getD 0 = s.rosterSum

/-- The station `s` at a known frame end (R73, R126), the outbox and the void run aside: the record gone, the
synchronised flag set, the quiets at 0, in START the join condition met. -/
def atFrameEnd (s : State) (r : FrameRecord) (now : Nat) (lows : List Low) : State :=
  { s with
    opening := none, frame := none, synchronised := true, highTime := 0, lineLow := lowOnLine s r now lows
    joinCondition := s.joinCondition || decide (s.mode = .start) }

/-! ### The machine -/

/-- A step runs the command at the front of the queue, with the queue's rest (the host's frame for a block). -/
def Obligations.StepRunsFrontCommand : Prop :=
  ∀ (c : Instr) (s : State) (rest : List Instr),
    step { s with pending := c :: rest } = exec c { s with pending := rest }

/-- With no command waiting, a step is one tick of the lease clock: every count advances by 1 together (R102; ages
saturate, R5, R6; the recovery timer stands still in DORMANT, R145), and exactly the events that the counts now
reach join the queue, each as often as it is due, in some order. Which are due at which count is written out: a ramp
step below the ramp target (R138), a lapse at P and a removal at P + H (R107, R108), the self lease at P in MEMBER
(R110), the renew timer (R104) and claim suppression (R37) at R, the census retry timer at P (R93), the cap at R in
LEARNING (R129), the mute wait at 2P in MUTE (R158), the droop recovery timer at R while the monitor runs (R144).
That an empty queue is a tick, and that the order is open, are the model's choices (log 3, 4); while RESET is held the
tick changes nothing (log 21). -/
def Obligations.EmptyQueueIsOneLeaseTick : Prop :=
  ∀ s : State, s.pending = [] →
    (s.resetHeld = true → step s = .next s) ∧
    (s.resetHeld = false →
      ∃ t : State, step s = .next t ∧
        t = { s with
          ownAge := min 65535 (s.ownAge + 1)
          replicas := s.replicas.map fun e => { e with age := min 65535 (e.age + 1) }
          renewTimer := match s.renewTimer with
            | .running ms => .running (ms + 1)
            | other => other
          suppression := s.suppression.map (· + 1)
          censusRetry := s.censusRetry.map (· + 1)
          windowCap := s.windowCap.map (· + 1)
          muteWait := s.muteWait.map (· + 1)
          recovery := if s.mode = .dormant then s.recovery else s.recovery.map (· + 1)
          fresh := s.fresh + 1
          pending := t.pending } ∧
        t.pending.Perm t.dueEvents ∧
        ∀ c : Instr, c ∈ t.pending ↔
          (c = .rampStep ∧ t.level < t.rampTarget) ∨
          (∃ a e, c = .lapse a ∧ t.mode.running = true ∧ findEntry a t.replicas = some e ∧ e.status = .live ∧
            t.lease ≤ e.age) ∨
          (∃ a e, c = .removal a ∧ t.mode.running = true ∧ findEntry a t.replicas = some e ∧ e.status = .lapsed ∧
            t.lease + t.lease / 2 ≤ e.age) ∨
          (c = .selfLease ∧ t.mode = .member ∧ t.lease ≤ t.ownAge) ∨
          (c = .renewTimerExpiry ∧ ∃ n, t.renewTimer = .running n ∧ t.lease / 4 ≤ n) ∨
          (c = .suppressionTimerExpiry ∧ ∃ n, t.suppression = some n ∧ t.lease / 4 ≤ n) ∨
          (c = .censusRetryTimerExpiry ∧ ∃ n, t.censusRetry = some n ∧ t.lease ≤ n) ∨
          (c = .cap ∧ t.mode = .learning ∧ ∃ n, t.windowCap = some n ∧ t.lease / 4 ≤ n) ∨
          (c = .muteWaitExpiry ∧ t.mode = .mute ∧ ∃ n, t.muteWait = some n ∧ 2 * t.lease ≤ n) ∨
          (c = .recoveryTimerExpiry ∧ t.mode.running = true ∧ t.record.b4.getLsbD 6 = true ∧
            ∃ n, t.recovery = some n ∧ t.lease / 4 ≤ n))

/-- Every command of the table is carried out in every state, and leaves the queue as it is: no command faults and
none is refused (00 Conventions: an event is an effect taken whole; R160: every error is reported, none stops the
part). -/
def Obligations.EveryCommandCompletesKeepingQueue : Prop :=
  ∀ (c : Instr) (s : State), ∃ t, exec c s = .next t ∧ t.pending = s.pending

/-! ### Reset and the record -/

/-- RESET (R118, section 7.1): everything but the one-time memory is gone, nothing in progress survives, and SHARE, ATTN,
DRIVE and SDO are not driven; a write in progress leaves its first bytes and 255 in the rest (R123; how many is open,
log 12). The values that stand until the read event are the model's: address 0, a blank record with cause BLANK,
UNCONFIGURED and an empty latch (log 2), settle count 0 (log 13), no reply (log 17), SUPPLY-LOW deasserted as filtered
(log 40). -/
def Obligations.ResetEndsEverything : Prop :=
  ∀ s : State, ∃ t, exec .reset s = .next t ∧
    t = { State.reset with oneTime := t.oneTime, fresh := t.fresh, pending := s.pending } ∧
    (s.writing = none → t.oneTime = s.oneTime) ∧
    (∀ b, s.writing = some b → ∃ n, n ≤ 5 ∧ t.oneTime = b.partly n) ∧
    t.shareDriven = false ∧ t.attnLow = false ∧ t.driveMilliamps = 0 ∧
    ∀ selHigh requestBytes n, t.sdo selHigh requestBytes n = .highImpedance

/-- READ_EVENT (R118, R120, R122, R124, R64): the one-time memory is read and judged, the straps are the address,
RESTARTED alone is latched (bit 4), and the station is in START with a restarted sampler when the cause is OK, and in
UNCONFIGURED otherwise. A low that stands on SHARE as the line interface starts was not seen to begin, and a
transaction whose select has fallen by then is to be ignored (BadAndCutRequestsChangeNothing). Everything else is at
the model's state of reset (log 1, 2), SUPPLY-LOW as filtered too where the droop monitor does not start (log 40). -/
def Obligations.ReadEventEntersStartOrUnconfigured : Prop :=
  ∀ (straps : Address) (lineLow selectLow : Bool) (s : State), s.resetHeld = true →
    (s.oneTime.judge = .ok →
      exec (.readEvent ⟨straps, lineLow, selectLow⟩) s = .next
        { State.reset with
          resetHeld := false, oneTime := s.oneTime, address := straps, record := s.oneTime, cause := .ok
          mode := .start, settle := 8, latch := 16, lineLow := if lineLow then some .unseen else none
          straddling := selectLow, fresh := s.fresh, pending := s.pending }) ∧
    (s.oneTime.judge ≠ .ok →
      exec (.readEvent ⟨straps, lineLow, selectLow⟩) s = .next
        { State.reset with
          resetHeld := false, oneTime := s.oneTime, address := straps, record := s.oneTime
          cause := s.oneTime.judge, mode := .unconfigured, latch := 16, straddling := selectLow, fresh := s.fresh
          pending := s.pending })

/-- The table of R120 in its order, with the byte layout of R176 written out: byte 1 the budget, byte 2 the ceiling, in
byte 3 the unit code in bits 7 and 6 (R1), the bit-time code in bits 5 and 4 (R63) and the lease code in bits 3 and 2
(R103), bits 1 and 0 of byte 3 and bits 4 to 0 of byte 4 spare, byte 5 the check; and with the timing check of R115:
R = P/4 is at least 16 frames of 115T. -/
def Obligations.RecordJudgedByFirstLineThatApplies : Prop :=
  ∀ r : Record,
    let unit := match r.b3.getLsbD 7, r.b3.getLsbD 6 with
      | false, false => 5 | false, true => 10 | true, false => 25 | true, true => 50
    let bitTime := match r.b3.getLsbD 5, r.b3.getLsbD 4 with
      | false, false => 10 | false, true => 20 | true, false => 50 | true, true => 100
    let lease := match r.b3.getLsbD 3, r.b3.getLsbD 2 with
      | false, false => 256 | false, true => 512 | true, false => 1024 | true, true => 2048
    let blank := r.bytes = [255, 255, 255, 255, 255]
    let badCheck := r.b5 ≠ crc8 (byteBits r.b1 ++ byteBits r.b2 ++ byteBits r.b3 ++ byteBits r.b4)
    let noBudget := r.b1 = 0 ∨ r.b2 = 0
    let spare := r.b3.getLsbD 1 = true ∨ r.b3.getLsbD 0 = true ∨ ∃ i, i < 5 ∧ r.b4.getLsbD i = true
    let slow := 1000 * (lease / 4) < 16 * 115 * bitTime
    r.budget = r.b1.toNat ∧ r.ceiling = min r.b2.toNat r.b1.toNat ∧ r.unit = unit ∧ r.bitTime = bitTime ∧
    r.lease = lease ∧ r.renew = lease / 4 ∧ r.holdover = lease / 2 ∧
    (blank → r.judge = .blank) ∧
    (¬ blank → badCheck → r.judge = .check) ∧
    (¬ blank → ¬ badCheck → noBudget → r.judge = .budget) ∧
    (¬ blank → ¬ badCheck → ¬ noBudget → spare → r.judge = .format) ∧
    (¬ blank → ¬ badCheck → ¬ noBudget → ¬ spare → slow → r.judge = .timing) ∧
    (¬ blank → ¬ badCheck → ¬ noBudget → ¬ spare → ¬ slow → r.judge = .ok)

/-- The address, the record as read and its cause hold until the next RESET or read event (R119, R120), and the
one-time memory changes only when a PROGRAM write completes or a RESET cuts one short (R123). -/
def Obligations.RecordHeldUntilReset : Prop :=
  ∀ (c : Instr) (s t : State), exec c s = .next t →
    (c ≠ .reset → (∀ pins, c ≠ .readEvent pins) →
      t.address = s.address ∧ t.record = s.record ∧ t.cause = s.cause) ∧
    (t.oneTime ≠ s.oneTime → s.writing.isSome = true ∧ (c = .programWriteComplete ∨ c = .reset))

/-- UNCONFIGURED and RESET held (R118, R122, R19): no command but RESET takes a station out of UNCONFIGURED, and every
step keeps a station without a valid record silent: no roster, no holding, no demand, no target, no intent, no frame.
That while RESET is held no command but READ_EVENT and RESET has an effect is the model's reading of section 7.1 and
R162 (DEDUCED, log 21). -/
def Obligations.UnconfiguredUntilReset : Prop :=
  (∀ (c : Instr) (s t : State), s.resetHeld = false → s.mode = .unconfigured → s.SilentInv → c ≠ .reset →
    exec c s = .next t → t.mode = .unconfigured) ∧
  (∀ (c : Instr) (s : State), s.resetHeld = true → s.SilentInv → c ≠ .reset → (∀ pins, c ≠ .readEvent pins) →
    exec c s = .next s) ∧
  (∀ s t : State, s.SilentInv → step s = .next t → t.SilentInv)

/-! ### The local port

A request here is one whose select fell after the read event; BadAndCutRequestsChangeNothing says what becomes of any
other (R118, R162). -/

/-- STATUS (R163, R178): the thirteen data bytes with the codes of state and fault cause written out, and nothing else
changes; in UNCONFIGURED every quantity and every flag reads 0 while the address and the pending-event set read as they
stand. (In DORMANT the reply is the same and the station wakes: DormantTransactionsWake.) -/
def Obligations.StatusReportsTheStation : Prop :=
  ∀ s : State, s.resetHeld = false → s.straddling = false →
    let mode : Byte := match s.mode with
      | .unconfigured => 0 | .start => 1 | .learning => 2 | .member => 3
      | .isolated => 4 | .fault => 5 | .mute => 6 | .dormant => 7
    let cause : Byte := match s.faultCause with
      | .none => 0 | .overdraw => 1 | .clash => 2
    (s.mode ≠ .unconfigured → s.mode ≠ .dormant →
      exec .status s = .next { s with
        reply := [1, mode, cause, dataByte s.address.toNat,
          dataByte s.holding, dataByte s.level, dataByte s.advertised, dataByte s.requested, dataByte s.target,
          dataByte (s.rosterSum / 256), dataByte s.rosterSum,
          dataByte ((if s.droopHold then 128 else 0) + (if s.budget < s.rosterSum then 64 else 0)
            + (if s.under then 32 else 0) + (if s.record.b4.getLsbD 7 then 16 else 0)),
          dataByte (s.latch.toNat / 256), dataByte s.latch.toNat] }) ∧
    (s.mode = .unconfigured →
      exec .status s = .next { s with
        reply := [1, 0, cause, dataByte s.address.toNat, 0, 0, 0, 0, 0, 0, 0, 0,
          dataByte (s.latch.toNat / 256), dataByte s.latch.toNat] })

/-- ENTRY (R164, R178): the entry at an address of 0..15, zeros where none is present, REFUSED with fill for 16 or
more; the own entry is LIVE with the own holding, the advertised demand and the own silence age. Outside DORMANT
nothing but the reply changes. (A transaction from before the read event is ignored: BadAndCutRequestsChangeNothing.) -/
def Obligations.EntryReportsOneRosterEntry : Prop :=
  ∀ (a : Byte) (s : State), s.resetHeld = false → s.straddling = false →
    ∃ t, exec (.entry a) s = .next t ∧
      (s.mode ≠ .dormant → t = { s with reply := t.reply }) ∧
      (16 ≤ a.toNat → t.reply = [3] ∧ ∀ n, t.replyByte (n + 1) = 0) ∧
      (a.toNat < 16 → ∀ e, findEntry (a.setWidth 4) s.roster = some e →
        t.reply = [1, 1, dataByte (if e.status = .live then 1 else 2), dataByte e.holding, dataByte e.demand,
          dataByte (e.age / 256), dataByte e.age]) ∧
      (a.toNat < 16 → findEntry (a.setWidth 4) s.roster = none → t.reply = [1, 0, 0, 0, 0, 0, 0]) ∧
      (a.toNat < 16 → a.setWidth 4 = s.address → s.mode ≠ .unconfigured →
        t.reply = [1, 1, 1, dataByte s.holding, dataByte s.advertised, dataByte (s.ownAge / 256),
          dataByte s.ownAge])

/-- OPTIONS (R165): in every state, the record as read (not the one-time memory as it stands), its cause by its code
(R176) and the address; outside DORMANT nothing but the reply changes. (A transaction from before the read event is
ignored: BadAndCutRequestsChangeNothing.) -/
def Obligations.OptionsReportsRecordAsRead : Prop :=
  ∀ s : State, s.resetHeld = false → s.straddling = false →
    let cause : Byte := match s.cause with
      | .ok => 0 | .blank => 1 | .check => 2 | .budget => 3 | .format => 4 | .timing => 5
    ∃ t, exec .options s = .next t ∧
      t.reply = [1, s.record.b1, s.record.b2, s.record.b3, s.record.b4, s.record.b5, cause,
        dataByte s.address.toNat] ∧
      t.record = s.record ∧ t.cause = s.cause ∧
      (s.mode ≠ .dormant → t = { s with reply := t.reply })

/-- TAKE (R171), the whole rule: OK in every state; with unmasked kinds latched the reply names the one of the
highest priority (the lowest code) and exactly that kind leaves the latch; with none it is NONE and the latch is
unchanged; a masked kind is neither named nor removed. A kind latched just before the TAKE that names it is gone
afterwards, and one latched just after is latched again. (A transaction from before the read event is ignored:
BadAndCutRequestsChangeNothing.) -/
def Obligations.TakeHandsOverHighestPriority : Prop :=
  ∀ s : State, s.resetHeld = false → s.straddling = false → s.HoldingInv →
    ∃ t, exec .take s = .next t ∧
      (∀ k : EventKind, s.latched k = true → s.masked k = false →
        (∀ j : EventKind, s.latched j = true → s.masked j = false → k.code ≤ j.code) →
          t.reply = [1, dataByte k.code] ∧ (∀ j : EventKind, t.latched j = (s.latched j && decide (j ≠ k))) ∧
          (latchEvent k t).latched k = true ∧
          (∃ u, exec .take (latchEvent k s) = .next u ∧ u.reply = t.reply ∧ u.latched k = false)) ∧
      ((∀ k : EventKind, s.latched k = true → s.masked k = true) → t.reply = [1, 0] ∧ t.latch = s.latch) ∧
      (∀ k : EventKind, s.masked k = true → t.latched k = s.latched k ∧ t.reply ≠ [1, dataByte k.code]) ∧
      (s.mode ≠ .dormant → t = { s with reply := t.reply, latch := t.latch })

/-- MASK (R172, R179): the whole mask is replaced, bits 0 to 7 from the low byte and 8 and 9 from the high byte, the
six other bits without effect; no kind leaves the latch. ATTN (R173) is released while RESET is held, else low if and
only if an unmasked kind is latched, so it follows MASK at once; at the read event it is low. -/
def Obligations.MaskAndAttnFollowTheRules : Prop :=
  (∀ (high low : Byte) (s : State), s.resetHeld = false → s.straddling = false → s.HoldingInv →
    ∃ t, exec (.mask high low) s = .next t ∧ t.reply = [1] ∧ t.latch = s.latch ∧
      (∀ k : EventKind, t.masked k = if k.bit < 8 then low.getLsbD k.bit else high.getLsbD (k.bit - 8)) ∧
      (t.attnLow = true ↔ ∃ k : EventKind, s.latched k = true ∧ t.masked k = false) ∧
      (s.mode ≠ .dormant → t = { s with reply := [1], mask := t.mask })) ∧
  (∀ s : State,
    (s.resetHeld = true → s.attnLow = false) ∧
    (s.resetHeld = false → (s.attnLow = true ↔ ∃ k : EventKind, s.latched k = true ∧ s.masked k = false)) ∧
    (s.resetHeld = true → ∀ pins t, exec (.readEvent pins) s = .next t → t.attnLow = true))

/-- DEMAND (R166, R24, R3): refused in UNCONFIGURED with nothing changed; elsewhere the requested demand becomes d
clipped to C, answered CLIPPED when cut. An unchanged value changes nothing more; where the state or droop hold
keeps it from being advertised, claim suppression is lifted and nothing more. -/
def Obligations.DemandSetsRequestedDemand : Prop :=
  ∀ (d : Byte) (s : State), s.resetHeld = false → s.straddling = false → s.mode ≠ .dormant →
    (s.mode = .unconfigured → exec (.demand d) s = .next { s with reply := [3] }) ∧
    (s.mode ≠ .unconfigured →
      ∃ t, exec (.demand d) s = .next t ∧
        t.requested = min d.toNat (min s.record.b2.toNat s.record.b1.toNat) ∧
        t.reply = [if min s.record.b2.toNat s.record.b1.toNat < d.toNat then 2 else 1] ∧
        allocatorOnly { s with requested := t.requested, reply := t.reply } t ∧
        (t.requested = s.requested → t = { s with reply := t.reply }) ∧
        (t.requested ≠ s.requested → (s.droopHold = true ∨ s.mode = .isolated ∨ s.mode = .fault ∨ s.mode = .mute) →
          t = { s with requested := t.requested, reply := t.reply, suppression := none }))

/-- A DEMAND that changes the advertised demand in LEARNING or MEMBER (R166, R25, R26, R86): the own target is
computed afresh and the change is left to an intent that announces it: a YIELD, else a CLAIM with the notice, else a
RENEW that is not covered; in START nothing is queued for it. -/
def Obligations.ChangedDemandIsAnnounced : Prop :=
  ∀ (d : Byte) (s : State), s.resetHeld = false → s.straddling = false → s.droopHold = false →
    min d.toNat s.ceiling ≠ s.requested →
    (s.mode = .learning ∨ s.mode = .member →
      ∃ t, exec (.demand d) s = .next t ∧ t.advertised = min d.toNat s.ceiling ∧ t.target = t.fairTarget ∧
        t.holding ≤ s.holding ∧ announcing t.outbox) ∧
    (s.mode = .start → s.holding = 0 →
      ∃ t, exec (.demand d) s = .next t ∧ t.advertised = min d.toNat s.ceiling ∧ t.target = t.fairTarget ∧
        t.outbox = s.outbox)

/-- CLEAR (R153, R167, R124): in FAULT it clears the cause and enters START with the values of R124's CLEAR column,
everything else (requested demand, droop hold, silence age, latch, mask, the frame followed) kept; in any other state
it is refused and changes nothing (in DORMANT: DormantTransactionsWake). The holding is 0 in FAULT (R7). -/
def Obligations.ClearLeavesFaultForStart : Prop :=
  ∀ s : State, s.resetHeld = false → s.straddling = false →
    (s.mode = .fault → s.holding = 0 →
      ∃ t, exec .clear s = .next t ∧ t.target = t.fairTarget ∧
        outboxHolds t.outbox none none none none false ∧
        t.outbox.inFlight = (s.outbox.inFlight.map fun f => { f with cancelled := true }) ∧
        t = { s with
          reply := [1], mode := .start, faultCause := .none, voidRun := 0, replicas := [], target := t.target
          suppression := none, outbox := t.outbox, censusRetry := none, synchronised := false
          joinCondition := false, highTime := 0, wakeArmed := false, renewTimer := .stopped
          windowCap := none, muteWait := none, level := 0, rampTarget := 0, settle := 8, overdrawRun := 0
          underRun := 0, under := false }) ∧
    (s.mode ≠ .fault → s.mode ≠ .dormant → exec .clear s = .next { s with reply := [3] })

/-- SLEEP (R132, R167, R21, R147): taken in MEMBER with holding 0, requested demand 0 and an empty outbox, it enters
DORMANT; in every other case outside DORMANT it is refused and nothing changes. The settle count 0 in DORMANT is the
model's (R147 gives none; log 13), and so is the filtered SUPPLY-LOW state, kept there (R145 gives none; log 40). -/
def Obligations.SleepEntersDormantOnlyWhenIdle : Prop :=
  ∀ s : State, s.resetHeld = false → s.straddling = false → s.mode ≠ .dormant →
    (s.mode = .member → s.holding = 0 → s.requested = 0 →
      s.outbox = { Outbox.empty with backoff := s.outbox.backoff } →
      exec .sleep s = .next { s with
        reply := [1], mode := .dormant, replicas := [], target := 0, suppression := none, outbox := Outbox.empty
        censusRetry := none, opening := none, frame := none, synchronised := false, joinCondition := false
        highTime := 0, lineLow := s.lineLow.map fun _ => .unseen, wakeArmed := false, renewTimer := .stopped
        windowCap := none, muteWait := none, level := 0, rampTarget := 0, settle := 0, overdrawRun := 0, underRun := 0
        under := false }) ∧
    (s.mode ≠ .member ∨ s.holding ≠ 0 ∨ s.requested ≠ 0 ∨ s.outbox.isEmpty = false →
      exec .sleep s = .next { s with reply := [3] })

/-- RELEARN (R168, R111, R98): in MEMBER and ISOLATED the holding is given up, the outbox cleared and a fresh CENSUS
queued behind a YIELD when the holding was above 0, ISOLATED latched; the roster, the silence age, the renew timer,
droop hold and the requested demand stay. In every other state it is refused. -/
def Obligations.RelearnEntersIsolated : Prop :=
  ∀ s : State, s.resetHeld = false → s.straddling = false →
    (s.mode = .member ∨ s.mode = .isolated → s.OutputInv → s.RosterInv →
      ∃ t, exec .relearn s = .next t ∧ t.reply = [1] ∧ t.mode = .isolated ∧ t.holding = 0 ∧ t.rampTarget = 0 ∧
        t.level = 0 ∧ t.target = 0 ∧ t.advertised = 0 ∧
        outboxHolds t.outbox (if 0 < s.holding then some ⟨0, false, false⟩ else none) none none
          (some ⟨0, false, false⟩) false ∧
        (∀ f ∈ t.outbox.inFlight, f.cancelled = true) ∧ t.latched .isolated = true ∧
        (0 < s.holding → t.latched .output = true) ∧ t.censusRetry = none ∧
        allocatorOnly { s with
          mode := .isolated, reply := [1], censusRetry := none, windowCap := none, muteWait := none
          joinCondition := false } t) ∧
    (s.mode ≠ .member → s.mode ≠ .isolated → s.mode ≠ .dormant →
      exec .relearn s = .next { s with reply := [3] })

/-- PROGRAM and the completion of its write (R123, R169): accepted once, in UNCONFIGURED with cause BLANK; the record
as read, the cause and the state stay, and the completed write puts the five bytes into the one-time memory. -/
def Obligations.ProgramWritesTheRecordOnce : Prop :=
  ∀ (b1 b2 b3 b4 b5 : Byte) (s : State), s.resetHeld = false → s.mode ≠ .dormant →
    (s.straddling = false → s.mode = .unconfigured → s.cause = .blank → s.written = false →
      exec (.program b1 b2 b3 b4 b5) s = .next { s with
        reply := [1], written := true, writing := some ⟨b1, b2, b3, b4, b5⟩ }) ∧
    (s.straddling = false → s.mode ≠ .unconfigured ∨ s.cause ≠ .blank ∨ s.written = true →
      exec (.program b1 b2 b3 b4 b5) s = .next { s with reply := [3] }) ∧
    (s.writing = some ⟨b1, b2, b3, b4, b5⟩ →
      exec .programWriteComplete s = .next { s with oneTime := ⟨b1, b2, b3, b4, b5⟩, writing := none })

/-- An unknown code and a select that rises early (R162, R177): BAD REQUEST with no data, or no reply at all, and
nothing else changes. The bits on SDI spell the request, most significant first, and a select that rises before its
last bit cuts it; bits of a byte not complete are dropped. SDO shows fill of value 0 under the request bytes, then the
reply bit by bit, most significant first, then fill; it is high-impedance while SEL is high and while RESET is held
(R161, R180). A transaction whose select fell before the read event is ignored whatever it carries, a wake included,
and the next one is not (R118, R162). -/
def Obligations.BadAndCutRequestsChangeNothing : Prop :=
  (∀ (code : Byte) (s : State), s.resetHeld = false → s.straddling = false → s.mode ≠ .dormant →
    (code.toNat = 0 ∨ 11 ≤ code.toNat → exec (.badRequest code) s = .next { s with reply := [4] }) ∧
    exec .selectRisesEarly s = .next { s with reply := [] }) ∧
  (∀ (c : Instr) (s : State), (bytesOfRequest c).isSome = true → s.resetHeld = false → s.straddling = true →
    exec c s = .next { s with straddling := false }) ∧
  (∀ (c : Instr) (bytes : List Byte), bytesOfRequest c = some bytes →
    let bits := bytes.flatMap fun b => (List.range 8).map fun i => b.getLsbD (7 - i)
    (∀ part : List Bool, part.length < 8 → requestOfBits (bits ++ part) = c) ∧
    (∀ n, n < bits.length → requestOfBits (bits.take n) = .selectRisesEarly)) ∧
  (∀ (s : State) (selHigh : Bool) (requestBytes n k : Nat), k < 8 →
    (selHigh = true ∨ s.resetHeld = true → s.sdo selHigh requestBytes n = .highImpedance) ∧
    (selHigh = false → s.resetHeld = false →
      (n < requestBytes → s.sdo selHigh requestBytes (8 * n + k) = .low) ∧
      (∀ b, s.reply[n]? = some b →
        s.sdo selHigh requestBytes (8 * (requestBytes + n) + k) = if b.getLsbD (7 - k) then .high else .low) ∧
      (s.reply.length ≤ n → s.sdo selHigh requestBytes (8 * (requestBytes + n) + k) = .low)))

/-- Every transaction in DORMANT wakes the station to START at its end, a refused request and a cut one included
(R135, R162, R124, R20, R145): the values of R124's wake column, the mask and the latch as the request leaves them,
the requested demand set first by a DEMAND, answered OK or CLIPPED (R24, R166). In DORMANT the holding is 0 (R7). -/
def Obligations.DormantTransactionsWake : Prop :=
  ∀ (c : Instr) (s : State), s.resetHeld = false → s.straddling = false → s.mode = .dormant → s.holding = 0 →
    (bytesOfRequest c).isSome = true →
    ∃ t, exec c s = .next t ∧ t.target = t.fairTarget ∧ t.advertised = t.requested ∧
      t = { s with
        reply := t.reply, mask := t.mask, latch := t.latch, requested := t.requested
        mode := .start, faultCause := .none, voidRun := 0, replicas := [], target := t.target, suppression := none
        outbox := s.outbox.clear, censusRetry := none, synchronised := false, joinCondition := false, highTime := 0
        wakeArmed := false, renewTimer := .stopped, windowCap := none, muteWait := none
        level := 0, rampTarget := 0, settle := 8, overdrawRun := 0, underRun := 0, under := false
        ownAge := 0, droopHold := false, recovery := none, supplyLow := false } ∧
      (∀ d, c = .demand d →
        t.requested = min d.toNat s.ceiling ∧ t.reply = [if s.ceiling < d.toNat then 2 else 1]) ∧
      ((∀ d, c ≠ .demand d) → t.requested = s.requested) ∧
      (c ≠ .take → t.latch = s.latch) ∧ ((∀ h l, c ≠ .mask h l) → t.mask = s.mask) ∧
      (c = .clear ∨ c = .sleep ∨ c = .relearn ∨ (∃ b1 b2 b3 b4 b5, c = .program b1 b2 b3 b4 b5) → t.reply = [3]) ∧
      (c = .status → t.reply = 1 :: s.statusData) ∧ (c = .selectRisesEarly → t.reply = []) ∧
      (∀ b, c = .badRequest b → t.reply = [4])

/-! ### The share line: waiting and breaking -/

/-- The wake detector (R134): with BUS WAKE set it is armed once the line has been high for 24T since DORMANT entry
(240 in T/10, over the lengths the commands give: log 6), and armed, it wakes the station to START at the next falling
edge with the values of R124's wake column, and its line interface classifies that low from its beginning (R64, R82;
log 8, 11), also where a low of less than 6T tells of that edge while it stands (log 11). Unarmed, or with BUS WAKE
clear, the edge wakes nothing, and a low on the line, told of while it stands or at its end, only starts the quiet
again; none is classified. -/
def Obligations.BusWakeNeedsArmedDetector : Prop :=
  ∀ s : State, s.resetHeld = false → s.mode = .dormant →
    (∀ high, s.record.busWake = true → s.lineLow = none → s.opening = none → s.frame = none →
      exec (.wakeDetectorArmed high) s = .next { s with
        highTime := s.highTime + high, wakeArmed := s.wakeArmed || decide (240 ≤ s.highTime + high) }) ∧
    (s.record.busWake = false ∨ s.wakeArmed = false → ∀ low, 5 ≤ low →
      exec (.breakPulse low) s = .next { s with highTime := 0, lineLow := some .unseen } ∧
      exec (.strayLow low) s = .next { s with highTime := 0, lineLow := none }) ∧
    (s.record.busWake = true → s.wakeArmed = true → s.holding = 0 →
      ∃ t, exec .busWake s = .next t ∧ t.target = t.fairTarget ∧ t.advertised = s.requested ∧
        t = { s with
          mode := .start, faultCause := .none, voidRun := 0, replicas := [], target := t.target, suppression := none
          outbox := s.outbox.clear, censusRetry := none, synchronised := false, joinCondition := false, highTime := 0
          lineLow := some (.seen false), wakeArmed := false, renewTimer := .stopped, windowCap := none, muteWait := none
          level := 0, rampTarget := 0, settle := 8, overdrawRun := 0, underRun := 0, under := false
          ownAge := 0, droopHold := false, recovery := none, supplyLow := false }) ∧
    (s.record.busWake = true → s.wakeArmed = true → ∀ low, 5 ≤ low → low < 60 →
      exec (.breakPulse low) s = exec .busWake s) ∧
    (s.record.busWake = false ∨ s.wakeArmed = false → exec .busWake s = .next s)

/-- JOIN_QUIET (R126, R61): in START, 24T of high line (240 in T/10) make the join condition true and queue a CENSUS,
once. The lengths the commands give add up (log 6); inside a followed frame the line's own lows have told how long it
has been high. While a low is on the line, the one that woke the station among them, nothing is counted (R134;
DEDUCED, log 11). -/
def Obligations.JoinQuietQueuesCensus : Prop :=
  ∀ (high : Nat) (s : State), s.resetHeld = false → s.mode = .start →
    let count := if s.frame = none then s.highTime + high else s.highTime
    (s.lineLow = none → s.opening = none → s.joinCondition = false → 240 ≤ count →
      exec (.joinQuiet high) s = .next { s with
        highTime := count, joinCondition := true, censusRetry := none
        outbox := { s.outbox with census := queuedInto s.outbox.census } }) ∧
    (s.lineLow = none → s.opening = none → s.joinCondition = true ∨ count < 240 →
      exec (.joinQuiet high) s = .next { s with highTime := count }) ∧
    (s.lineLow.isSome = true ∨ s.opening.isSome = true → exec (.joinQuiet high) s = .next s)

/-- The filter, the pulse classes and the lows outside frames (R64, R65, R73), widths in T/10. The filter removes a
low under T/2, bridges a high under T/2 inside a low (behind which a low under T/2 is bridged too, the model's choice:
log 35), and passes every other low and high with its width. A low is classed by the table of R65. Outside any frame
one that is not a break stops every quiet from its falling edge, and every quiet starts again from its rising edge. A
low whose falling edge the filter did not see is not classified, however long it lasts: the line interface waits for
it to rise. Inside a followed frame a stray low is none. -/
def Obligations.LowsAreClassedByWidth : Prop :=
  (∀ w : Nat,
    (classify w = none ↔ w < 5) ∧ (classify w = some .shortMark ↔ 5 ≤ w ∧ w < 15) ∧
    (classify w = some .longMark ↔ 15 ≤ w ∧ w < 25) ∧ (classify w = some .symbolError ↔ 25 ≤ w ∧ w < 60) ∧
    (classify w = some .breakLow ↔ 60 ≤ w)) ∧
  (∀ (l m : Low) (lows : List Low),
    (l.width < 5 → filterLows (l :: lows) = filterLows lows) ∧
    (5 ≤ l.width → l.start + l.width ≤ m.start → m.start < l.start + l.width + 5 →
      filterLows (l :: m :: lows) = filterLows (⟨l.start, m.start + m.width - l.start⟩ :: lows)) ∧
    ((∀ x ∈ lows, 5 ≤ x.width) → lows.Pairwise (fun x y => x.start + x.width + 5 ≤ y.start) →
      filterLows lows = lows)) ∧
  (∀ (w : Nat) (s : State), s.lineOn = true →
    (w < 5 → exec (.strayLow w) s = .next s ∧ exec (.breakPulse w) s = .next s) ∧
    (s.opening = none → s.frame = none → 5 ≤ w → w < 60 ∨ s.lineLow = some .unseen →
      exec (.strayLow w) s = .next { s with highTime := 0, lineLow := none }) ∧
    (s.opening.isSome = true ∨ s.frame.isSome = true → exec (.strayLow w) s = .next s) ∧
    (s.lineLow = none → 5 ≤ w → w < 60 →
      exec (.breakPulse w) s = .next { s with highTime := 0, lineLow := some (.seen s.mode.listening) }) ∧
    (s.lineLow = some .unseen → exec (.breakPulse w) s = .next s))

/-- BREAK_START (R73, R74, R87, R88, R40): when the wait has passed, the intent of the highest rank goes into flight,
the fields are frozen, a RENEW left behind is covered, the backoff flag is cleared, and SHARE is pulled low. The wait
is the idle gap of 6T with the backoff (1 + a) × 3T after a failure when synchronised, else the join quiet of 24T with
no backoff (DEDUCED, log 22), which may also pass inside a stopped frame, whose record the break then ends (DEDUCED,
log 30); the count it is held against is log 6's. Before it has passed, with nothing waiting, while a synchronised
station follows a frame, or while a low or a break is on the line, no break begins. The first clause covers every kind
but CLAIM, which ClaimAmountFitsTheBudget and ClaimWithdrawnAtBreakStart cover. -/
def Obligations.BreakStartServesHighestRank : Prop :=
  ∀ (high : Nat) (s : State), s.lineOn = true → s.mode ≠ .mute → s.sending = false →
    let wait := if s.synchronised then 60 + (if s.outbox.backoff then (1 + s.address.toNat) * 30 else 0) else 240
    let count := if s.frame = none then s.highTime + high else s.highTime
    (∀ (k : Kind) (i : Intent), s.lineLow = none → s.opening = none → s.frame = none ∨ s.synchronised = false →
      k ≠ .claim → s.outbox.get k = some i →
      (∀ j : Kind, (s.outbox.get j).isSome = true → k.rank ≤ j.rank) → wait ≤ count →
      ∃ t, exec (.breakStart high) s = .next t ∧
        t = { s with
          outbox := t.outbox, frame := none, highTime := 0, lineLow := some (.seen s.mode.listening)
          opening := some ⟨.sender, some ⟨⟨k, s.address, s.holding, s.advertised⟩,
            crc8 (FrameFields.bits ⟨k, s.address, s.holding, s.advertised⟩)⟩, 0⟩ } ∧
        t.outbox.inFlight = some ⟨k, i, false⟩ ∧ t.outbox.get k = none ∧ t.outbox.backoff = false ∧
        (∀ j : Kind, j ≠ k → j ≠ .renew → t.outbox.get j = s.outbox.get j) ∧
        (k ≠ .renew → t.outbox.renew = s.outbox.renew.map fun i => { i with covered := true }) ∧
        t.shareDriven = true ∧ t.transmitter = .breaking) ∧
    (s.lineLow = none → s.opening = none →
      count < wait ∨ s.outbox.waiting = false ∨ (s.frame.isSome = true ∧ s.synchronised = true) →
      exec (.breakStart high) s = .next { s with highTime := count }) ∧
    (s.lineLow.isSome = true ∨ s.opening.isSome = true → exec (.breakStart high) s = .next s)

/-- A CLAIM at its break start (R35, R57): it carries the smaller of the own target and h + free; so the amount and
the holdings of all others together fit the budget, with the sums of R16 and R45 written out. The wait that has passed
is that of BreakStartServesHighestRank (log 6, 22, 30). -/
def Obligations.ClaimAmountFitsTheBudget : Prop :=
  ∀ (high : Nat) (i : Intent) (s : State), s.lineOn = true → s.mode ≠ .mute → s.sending = false →
    s.lineLow = none → s.opening = none → s.frame = none ∨ s.synchronised = false →
    s.outbox.yield = none → s.outbox.renew = none → s.outbox.claim = some i →
    s.contentionWait ≤ (if s.frame = none then s.highTime + high else s.highTime) →
    (s.holding : Int) < min (s.target : Int) ((s.holding : Int) + ((s.budget : Int) - s.rosterSum)) →
    s.RosterInv →
    ∃ t f, exec (.breakStart high) s = .next t ∧
      t = { s with
        outbox := t.outbox, opening := some ⟨.sender, some f, 0⟩, frame := none, highTime := 0
        lineLow := some (.seen s.mode.listening) } ∧
      t.outbox.inFlight = some ⟨.claim, i, false⟩ ∧ t.outbox.claim = none ∧ t.outbox.backoff = false ∧
      f.fields.kind = .claim ∧ f.fields.sender = s.address ∧ f.fields.demand = s.advertised ∧
      f.check = crc8 f.fields.bits ∧
      (f.fields.holding : Int) = min (s.target : Int) ((s.holding : Int) + ((s.budget : Int) - s.rosterSum)) ∧
      s.holding < f.fields.holding ∧
      s.othersHolding s.address + f.fields.holding ≤ s.budget ∧ rosterAddsUp s

/-- A CLAIM whose amount is not above the holding (R36): it is withdrawn at its break start, with no attempt
counted, no event latched and no suppression; a notice it carried becomes a RENEW (R86). No break begins unless
another intent is present: then that one is served at the same moment. The wait that has passed is that of
BreakStartServesHighestRank (log 6, 22, 30). -/
def Obligations.ClaimWithdrawnAtBreakStart : Prop :=
  ∀ (high : Nat) (i : Intent) (s : State), s.lineOn = true → s.mode ≠ .mute → s.sending = false →
    s.lineLow = none → s.opening = none → s.frame = none ∨ s.synchronised = false →
    s.outbox.yield = none → s.outbox.renew = none → s.outbox.claim = some i →
    let count := if s.frame = none then s.highTime + high else s.highTime
    let sent (k : Kind) (t : State) : Prop := ∃ f : SentFrame,
      f.fields = ⟨k, s.address, s.holding, s.advertised⟩ ∧
      t = { s with
        outbox := t.outbox, opening := some ⟨.sender, some f, 0⟩, frame := none, highTime := 0
        lineLow := some (.seen s.mode.listening) }
    s.contentionWait ≤ count →
    min (s.target : Int) ((s.holding : Int) + ((s.budget : Int) - s.rosterSum)) ≤ s.holding →
    (i.notice = false → s.outbox.census = none →
      exec (.breakStart high) s = .next { s with
        highTime := count, outbox := { s.outbox with claim := none } }) ∧
    (i.notice = false → ∀ c, s.outbox.census = some c →
      ∃ t, exec (.breakStart high) s = .next t ∧ sent .census t ∧
        t.outbox = { s.outbox with
          claim := none, census := none, inFlight := some ⟨.census, c, false⟩, backoff := false }) ∧
    (i.notice = true →
      ∃ t, exec (.breakStart high) s = .next t ∧ sent .renew t ∧
        t.outbox = { s.outbox with
          claim := none, inFlight := some ⟨.renew, ⟨0, false, false⟩, false⟩, backoff := false })

/-- BREAK (R65, R69, R71, R81, R42): a low of 6T that the filter saw begin opens a frame. The station follows it as a
receiver when it was in a listening state at the falling edge and has been in one since, and as an onlooker otherwise:
in FAULT and MUTE, and after the falling edge that woke it (R82). The line interface runs in the six states of R69. Inside a followed frame the break ends that frame,
with no application and the void run as it stands. Inside the own frame the outcome is voided, at the eighth failure by
kind (R92 to R94), and a cancelled intent is discarded (R96). While the contenders' own break or a followed one stands,
the low is that same one and nothing changes (DEDUCED, log 9). -/
def Obligations.BreakOpensAndCutsFrames : Prop :=
  (∀ s : State,
    (s.mode.listening = true ↔ s.mode = .start ∨ s.mode = .learning ∨ s.mode = .member ∨ s.mode = .isolated) ∧
    (s.lineOn = true ↔ s.resetHeld = false ∧
      (s.mode.listening = true ∨ s.mode = .fault ∨ s.mode = .mute))) ∧
  (∀ (low : Nat) (s : State), s.lineOn = true → 60 ≤ low → s.lineLow ≠ some .unseen →
    let listened := match s.lineLow with
      | some (.seen receiver) => receiver && s.mode.listening
      | _ => s.mode.listening
    let role := if listened then Role.receiver else Role.onlooker
    (s.opening = none → s.sending = false →
      exec (.breakPulse low) s = .next { s with
        opening := some ⟨role, none, 0⟩, frame := none, highTime := 0, lineLow := some (.seen listened) }) ∧
    (∀ r f, s.opening = none → s.frame = some r → r.role = .sender → s.outbox.inFlight = some f →
      ∃ t, exec (.breakPulse low) s = .next t ∧
        t = { s with
          outbox := t.outbox, latch := t.latch, suppression := t.suppression, censusRetry := t.censusRetry
          opening := some ⟨role, none, 0⟩, frame := none, highTime := 0, lineLow := some (.seen listened) } ∧
        (f.cancelled = false → countedFailure f s t) ∧
        (f.cancelled = true →
          t = { s with
            opening := t.opening, frame := none, highTime := 0, lineLow := t.lineLow
            outbox := { s.outbox with
              inFlight := none, renew := s.outbox.renew.map fun i => { i with covered := false } } })) ∧
    (s.opening.isSome = true → exec (.breakPulse low) s = .next s))

/-- BREAK_LIMIT (R66, R75): the station drives its own break for 8T from its start and then waits for the line to rise.
The line still low 16T after the own break start ends the own frame as voided, counted with backoff, at the eighth
failure by kind (R89 to R94), and the station follows that low, which it saw from its own falling edge. Once the line
has risen there is no such low, and nothing happens. -/
def Obligations.BreakLimitVoidsOwnFrame : Prop :=
  ∀ (low : Nat) (s : State), s.lineOn = true →
    (∀ (o : Opening) (f : Flight), s.opening = some o → o.role = .sender → s.outbox.inFlight = some f →
      f.cancelled = false → 160 ≤ low →
      ∃ t, exec (.breakLimit low) s = .next t ∧
        t = { s with
          outbox := t.outbox, latch := t.latch, suppression := t.suppression, censusRetry := t.censusRetry
          opening := some ⟨if s.sawEdgeListening then .receiver else .onlooker, none, 0⟩, frame := none, highTime := 0
          lineLow := some (.seen s.sawEdgeListening) } ∧
        countedFailure f s t) ∧
    (∀ o : Opening, s.opening = some o → o.role = .sender → o.ownTime < 160 → low < 160 →
      ∃ t, exec (.breakLimit low) s = .next t ∧
        t = { s with opening := some { o with ownTime := max o.ownTime low } } ∧ t.transmitter = .breaking ∧
        (s.frame = none → (t.shareDriven = true ↔ o.ownTime < 80 ∧ low < 80))) ∧
    (s.opening = none → exec (.breakLimit low) s = .next s)

/-! ### The share line: arbitration, frames and outcomes -/

/-- Arbitration (R41, R66, R77): when two frames with different headers contend on the wired-AND line, there is a
header position k at which the one of the lower rank, or of the same kind and the higher sender address, has a long
mark and the other a short one, and up to which they agree. The loser reads a long mark there where it sent a short
one and drives no further mark; the winner reads its whole frame back as sent. -/
def Obligations.LowerRankThenHigherAddressWins : Prop :=
  ∀ f g : FrameFields,
    f.kind.rank < g.kind.rank ∨ (f.kind = g.kind ∧ g.sender.toNat < f.sender.toNat) →
    ∃ k, k < 7 ∧
      let winner := (sealFrame f).marks
      let loser := (sealFrame g).marks
      let both := (winner.zip loser).map fun p => if p.1 = .long ∨ p.2 = .long then Mark.long else Mark.short
      let line := (both.take (k + 1) ++ winner.drop (k + 1)).map PositionRead.mark
      winner.take k = loser.take k ∧
      firstMismatch 0 winner line = none ∧ firstMismatch 0 loser line = some (.lost, k)

/-- LOST (R77, R89): the frame's lows, in order (log 10), read as sent up to the header position k, where a short mark
was sent, and a low that begins in that position's window turns out to be a long mark. Arbitration is lost at the
moment its class is known, whatever the line carries after it, and the outcome lost leaves the intent uncounted in the
collection and sets no backoff. The loser goes on as a receiver of the winner's frame with the marks read so far, or
as an onlooker in FAULT, with the low and the quiet on the line that the lows so far leave (log 6). An own frame that
has come to that moment does the same, and from then on it is a heard frame (log 19). -/
def Obligations.LoserBecomesReceiver : Prop :=
  ∀ (raw lows : List Low) (k : Nat) (l : Low) (r : FrameRecord) (sent : SentFrame) (f : Flight) (s : State),
    s.followed = some r → r.role = .sender → r.sent = some sent → r.mismatch = none → lows = filterLows raw →
    inOrder lows →
    k < 7 → sent.marks[k]? = some .short →
    (readPositions lows).take k = (sent.marks.take k).map PositionRead.mark →
    opensPosition lows k l → 15 ≤ l.width → l.width < 25 →
    s.outbox.inFlight = some f → f.cancelled = false → f.intent.attempts < 8 →
    let known := l.start + l.width
    ∃ t r', exec (.lost raw) s = .next t ∧
      t = { s with
        outbox := t.outbox, opening := none, frame := some r', highTime := quietInFrame s r r'.elapsed lows
        lineLow := lowOnLine s r r'.elapsed lows } ∧
      r' = { r with
        role := if s.mode.listening then .receiver else .onlooker, elapsed := max r.elapsed known
        marks := sent.marks.take k ++ [.long], symbolError := false, verdict := none, sent := none
        mismatch := some (.lost, k) } ∧
      t.sending = false ∧ t.outbox.inFlight = none ∧ t.outbox.backoff = s.outbox.backoff ∧
      (∃ j, t.outbox.get f.kind = some j ∧ j.attempts = f.intent.attempts) ∧
      (∀ reached now, reaches r reached now raw lows → known ≤ now →
        exec (.ownFrameOutcome ⟨reached, raw, .nothing⟩) s = exec (.heardFrame ⟨reached, raw⟩) t)

/-- Sent frames are read back (R40, R44, R64, R66, R67, R70, R174, R175): the lows of any frame a station can send, with
either slot asserted or not, pass the filter as they are and are read by every receiver as exactly its four fields, with
no reception error, and the slots are seen as they were driven. -/
def Obligations.SentFrameIsReadBack : Prop :=
  ∀ (f : FrameFields) (ack void : Bool), f.holding ≤ 255 → f.demand ≤ 255 →
    let lows := (sealFrame f).lows ack void
    filterLows lows = lows ∧
    decodeFrame (readPositions lows) = some f ∧
    firstMismatch 0 (sealFrame f).marks (readPositions lows) = none ∧
    ackSeen lows = ack ∧ voidSeen lows = void ∧ breakAmong lows = false

/-- A frame applied (R9 to R12, R43, R48, R49, R50, R17, R18): a correctly received frame from a peer that no one voids
writes its sender's entry LIVE with the frame's holding and demand and a silence age of 0, and no other entry; a created
entry latches ROSTER. A changed entry lifts claim suppression and brings a recompute; one that raises the roster sum
above B latches OVERCOMMIT, removes a waiting CLAIM and cancels one in flight; the same values once more bring none of
that. A MEMBER that holds or wants current answers a CENSUS with a RENEW. The verdict may stand from the judgement point
or be reached now, by the station as it stands (log 7). The sums that the verdict on a CLAIM and the overcommit rest on
are written out (R16, R45). -/
def Obligations.HeardFrameWritesOnlyItsSender : Prop :=
  ∀ (reached now : Nat) (raw lows : List Low) (r : FrameRecord) (f : FrameFields) (s : State), s.resetHeld = false →
    s.mode.listening = true → s.followed = some r → r.role = .receiver → reaches r reached now raw lows → 1010 ≤ now →
    f.sender ≠ s.address →
    (r.verdict = none ∧ decodeFrame (readPositions lows) = some f ∧
        (s.mode = .member → f.kind = .claim → s.othersHolding f.sender + f.holding ≤ s.budget)) ∨
      (r.verdict = some .ack ∧ r.fields = some f) →
    r.voidSample.getD (voidSeen lows) = false →
    let heard : State := { s with replicas := putEntry ⟨f.sender, .live, f.holding, f.demand, 0⟩ s.replicas }
    let same := ∃ age, findEntry f.sender s.replicas = some ⟨f.sender, .live, f.holding, f.demand, age⟩
    ∃ t, exec (.heardFrame ⟨reached, raw⟩) s = .next t ∧
      t.replicas = heard.replicas ∧
      findEntry f.sender t.replicas = some ⟨f.sender, .live, f.holding, f.demand, 0⟩ ∧
      (∀ a, a ≠ f.sender → findEntry a t.replicas = findEntry a s.replicas) ∧
      (findEntry f.sender s.replicas = none → t.latched .roster = true) ∧
      (¬ same → t.target = t.fairTarget ∧ t.suppression = none) ∧
      (s.RosterInv → s.rosterSum ≤ s.budget → s.budget < heard.rosterSum →
        t.latched .overcommit = true ∧ t.outbox.claim = none ∧
        ∀ g ∈ t.outbox.inFlight, g.kind = .claim → g.cancelled = true) ∧
      (s.RosterInv → rosterAddsUp s ∧ rosterAddsUp heard) ∧
      (same → t.target = s.target ∧ t.holding = s.holding ∧ t.latch = s.latch ∧ t.suppression = s.suppression ∧
        t.outbox.claim = s.outbox.claim) ∧
      (f.kind = .census → s.mode = .member → t.holdsOrWants = true → t.outbox.renew.isSome = true) ∧
      t.holding ≤ s.holding ∧
      allocatorOnly { atFrameEnd s r now lows with
        voidRun := if r.verdict = none then 0 else s.voidRun, replicas := t.replicas
        censusRetry := t.censusRetry } t

/-- Judging and setting aside (R43, R45, R48, R49, R70, R72, R69). At the judgement point, 95T after the break end, a
receiver judges once, by the first line of R43's table and by the station as it then stands; the verdict and the void
run stand in State from then on, and the ACK slot is driven for ACK and the VOID slot for any other verdict, for 2T
each. A frame whose VOID slot another station asserted, or a CLAIM judged not to fit the budget, changes no roster entry
and no own value at its end. At an onlooker every frame's end is a known frame end and nothing more. In START that end
meets the join condition (R126). A verdict not reached before is reached by the end's state (log 7). The sum a CLAIM is
held against is written out (R16, R45), and so are the low and the quiet on the line until the frame's end (R73; log 6). -/
def Obligations.VoidedFrameChangesNoRoster : Prop :=
  ∀ (reached now : Nat) (raw lows : List Low) (r : FrameRecord) (s : State), s.lineOn = true →
    s.followed = some r → reaches r reached now raw lows →
    let fields := decodeFrame (readPositions lows)
    let unfit := ∃ f, fields = some f ∧ s.mode = .member ∧ f.kind = .claim ∧
      s.budget < s.othersHolding f.sender + f.holding
    let own := ∃ f, fields = some f ∧ f.sender = s.address
    (s.RosterInv → rosterAddsUp s) ∧
    (s.mode.listening = true → r.role = .receiver → r.verdict = none → 950 ≤ now → now < 1010 →
      ∃ t r' v, exec (.heardFrame ⟨reached, raw⟩) s = .next t ∧
        t = { s with
          opening := none, frame := some r', highTime := quietInFrame s r now lows, lineLow := lowOnLine s r now lows
          voidRun := if fields = none then min 8 (s.voidRun + 1) else 0 } ∧
        r'.role = .receiver ∧ r'.elapsed = now ∧ r'.fields = fields ∧ r'.verdict = some v ∧
        (fields = none → v = .voidReception) ∧ (own → v = .voidClash) ∧ (¬ own → unfit → v = .voidBudget) ∧
        (fields.isSome = true → ¬ own → ¬ unfit → v = .ack) ∧
        (now < 970 → (t.shareDriven = true ↔ v = .ack)) ∧
        (980 ≤ now → now < 1000 → (t.shareDriven = true ↔ v ≠ .ack)) ∧
        (970 ≤ now → now < 980 → t.shareDriven = false) ∧ (1000 ≤ now → t.shareDriven = false)) ∧
    (r.role = .receiver → r.verdict.isSome = true → now < 1010 →
      ∃ t r', exec (.heardFrame ⟨reached, raw⟩) s = .next t ∧
        t = { s with
          opening := none, frame := some r', highTime := quietInFrame s r now lows, lineLow := lowOnLine s r now lows } ∧
        r'.role = .receiver ∧ r'.elapsed = now ∧ r'.verdict = r.verdict ∧ r'.fields = r.fields) ∧
    (s.mode.listening = true → r.role = .receiver → 1010 ≤ now →
      (r.verdict = none ∧ ¬ own ∧ (unfit ∨ (fields.isSome = true ∧ r.voidSample.getD (voidSeen lows) = true))) ∨
        r.verdict = some .voidBudget ∨ (r.verdict = some .ack ∧ r.voidSample.getD (voidSeen lows) = true) →
      ∃ t, exec (.heardFrame ⟨reached, raw⟩) s = .next t ∧
        t = { atFrameEnd s r now lows with
          voidRun := if r.verdict = none then 0 else s.voidRun, outbox := t.outbox, censusRetry := t.censusRetry } ∧
        (s.mode ≠ .start ∨ s.joinCondition = true → t.outbox = s.outbox ∧ t.censusRetry = s.censusRetry)) ∧
    (r.role = .onlooker → 1010 ≤ now →
      ∃ t, exec (.heardFrame ⟨reached, raw⟩) s = .next t ∧
        t = { atFrameEnd s r now lows with outbox := t.outbox, censusRetry := t.censusRetry } ∧
        (s.mode ≠ .start ∨ s.joinCondition = true → t.outbox = s.outbox ∧ t.censusRetry = s.censusRetry) ∧
        (s.mode = .start → s.joinCondition = false →
          t.outbox = { s.outbox with census := queuedInto s.outbox.census } ∧ t.censusRetry = none))

/-- Reception errors (R44, R48, R155, R156): each raises the void run by 1 at its judgement and changes no roster; when
the run has come to 8, the frame's end takes the station to MUTE, with holding 0, an empty outbox, the mute wait started
and MUTED latched, the rest kept. The verdict may stand from the judgement point or be reached now (log 7). R155 speaks of
the verdict that raises the run to 8; that a station whose run stands at 8 already, since a break cut off the frame that
brought it there, is muted by the end of this later frame is the model's choice (DESIGN CHOICE, log 37). -/
def Obligations.EighthReceptionErrorMutes : Prop :=
  ∀ (reached now : Nat) (raw lows : List Low) (r : FrameRecord) (s : State), s.resetHeld = false →
    s.mode.listening = true → s.followed = some r → r.role = .receiver → reaches r reached now raw lows → 1010 ≤ now →
    (r.verdict = none ∧ decodeFrame (readPositions lows) = none) ∨ r.verdict = some .voidReception →
    let run := if r.verdict = none then min 8 (s.voidRun + 1) else s.voidRun
    (run < 8 →
      ∃ t, exec (.heardFrame ⟨reached, raw⟩) s = .next t ∧
        t = { atFrameEnd s r now lows with voidRun := run, outbox := t.outbox, censusRetry := t.censusRetry } ∧
        (s.mode ≠ .start ∨ s.joinCondition = true → t.outbox = s.outbox ∧ t.censusRetry = s.censusRetry)) ∧
    (run = 8 → s.OutputInv → s.RosterInv →
      ∃ t, exec (.heardFrame ⟨reached, raw⟩) s = .next t ∧ t.holding = 0 ∧ t.level = 0 ∧ t.rampTarget = 0 ∧
      t.target = 0 ∧
        t.advertised = 0 ∧ outboxHolds t.outbox none none none none false ∧
        t.latched .muted = true ∧ (0 < s.holding → t.latched .output = true) ∧
        allocatorOnly (receivesNoMore { atFrameEnd s r now lows with
          mode := .mute, muteWait := some 0, voidRun := 8, windowCap := none, joinCondition := false
          censusRetry := none }) t)

/-- A heard frame that bears the own address is a clash (R46, R150, R151): FAULT with cause CLASH at its end, the
frame not applied. The verdict may stand from the judgement point or be reached now (log 7). -/
def Obligations.OwnAddressHeardIsAClash : Prop :=
  ∀ (reached now : Nat) (raw lows : List Low) (r : FrameRecord) (s : State), s.resetHeld = false →
    s.mode.listening = true → s.followed = some r → r.role = .receiver → reaches r reached now raw lows → 1010 ≤ now →
    (r.verdict = none ∧ ∃ f, decodeFrame (readPositions lows) = some f ∧ f.sender = s.address) ∨
      r.verdict = some .voidClash →
    s.OutputInv → s.RosterInv →
    ∃ t, exec (.heardFrame ⟨reached, raw⟩) s = .next t ∧
      faultEntered .clash { atFrameEnd s r now lows with
        voidRun := if r.verdict = none then 0 else s.voidRun } t

/-- The own frame (R66, R76 to R80, R83). The mismatches are those of R78: in the header a long mark read for a short
one is a loss, in the payload a clash, anything else a readback error. Until the frame's end its record comes
along, with the low and the quiet that its lows leave on the line (R73; log 6): the transmitter is in HEADER until mark 6 is read back, in PAYLOAD until mark 30, in SLOTS from then on or from a
mismatch; each mark is driven for 1T or 2T from its position's start, up to the position of a mismatch, and behind
that no more, but the VOID slot for 2T. A mismatch is found as soon as the class of its position is known: with the
marks before it read back, a mark of the other width at its rising edge, a wider low once it has lasted 5T/2 or at the
latest as the next position begins, and a missing low when the window closes (log 34). The outcome at the frame end is
the first line of R80 that applies; a clash is counted at the outbox and then enters FAULT with cause CLASH (R89,
R150), where a second cause changes nothing (R149). -/
def Obligations.OutcomeIsTheFirstLineThatApplies : Prop :=
  (∀ lone ack void : Bool,
    outcomeOf lone (some .clash) ack void = .clash ∧ outcomeOf lone (some .readback) ack void = .voided ∧
    outcomeOf lone none ack true = .voided ∧ outcomeOf lone none true false = .accepted ∧
    outcomeOf true none false false = .accepted ∧ outcomeOf false none false false = .unheard) ∧
  (∀ (pre post : List Mark) (m : Mark) (read : PositionRead) (rest : List PositionRead), read ≠ .mark m →
    firstMismatch 0 (pre ++ m :: post) (pre.map PositionRead.mark ++ read :: rest) =
      some (if m = .short ∧ read = .mark .long then (if pre.length < 7 then .lost else .clash) else .readback,
        pre.length)) ∧
  (∀ (reached now : Nat) (raw lows : List Low) (r : FrameRecord) (sent : SentFrame) (s : State), s.lineOn = true →
    s.followed = some r → r.role = .sender → r.sent = some sent → reaches r reached now raw lows →
    (∀ k, r.mismatchBy sent now lows ≠ some (.lost, k)) →
    (now < 1010 →
      ∃ t r', exec (.ownFrameOutcome ⟨reached, raw, .nothing⟩) s = .next t ∧
        t = { s with
          opening := none, frame := some r', highTime := quietInFrame s r now lows, lineLow := lowOnLine s r now lows } ∧
        r'.role = .sender ∧ r'.sent = some sent ∧ r'.elapsed = now ∧ r'.mismatch = r.mismatchBy sent now lows ∧
        r'.marks = marksRead (readsSoFar now lows) ∧
        t.transmitter = (if r'.mismatch.isSome ∨ 950 ≤ now then .slots
          else if r'.marks.length < 7 then .header else .payload) ∧
        (r'.mismatch = none → now < 20 ∨ 950 ≤ now → t.shareDriven = false) ∧
        (∀ k m, r'.mismatch = none ∨ (∃ x, r'.mismatch = some (x, k)) → sent.marks[k]? = some m →
          20 + 30 * k ≤ now → now < 50 + 30 * k →
          (t.shareDriven = true ↔ now < 20 + 30 * k + if m = .long then 20 else 10)) ∧
        (∀ x k, r'.mismatch = some (x, k) → 50 + 30 * k ≤ now → (t.shareDriven = true ↔ 980 ≤ now ∧ now < 1000)) ∧
        (∀ k m, sent.marks[k]? = some m → r.mismatch = none → inOrder lows →
          (readPositions lows).take k = (sent.marks.take k).map PositionRead.mark →
          (∀ l, opensPosition lows k l → l.width < 25 → 7 ≤ k ∨ m = .long → (m = .short ↔ 15 ≤ l.width) →
            (l.start + l.width ≤ now → r'.mismatch = some (if m = .short then .clash else .readback, k)) ∧
            (now < l.start + l.width → r'.mismatch = none)) ∧
          (∀ l, opensPosition lows k l → 25 ≤ l.width →
            (min (l.start + 25) (50 + 30 * k) ≤ now → r'.mismatch = some (.readback, k)) ∧
            (now < min (l.start + 25) (50 + 30 * k) → r'.mismatch = none)) ∧
          ((∀ l ∈ lows, l.start < 20 + 30 * k ∨ 50 + 30 * k ≤ l.start) → (k = 0 → ∀ l ∈ lows, 20 ≤ l.start) →
            (30 + 30 * k ≤ now → r'.mismatch = some (.readback, k)) ∧
            (now < 30 + 30 * k → r'.mismatch = none)))) ∧
    (∀ f k, 1010 ≤ now → r.mismatchBy sent now lows = some (.clash, k) → s.outbox.inFlight = some f →
      f.cancelled = false → s.OutputInv → s.RosterInv →
      ∃ u t, exec (.ownFrameOutcome ⟨reached, raw, .nothing⟩) s = .next t ∧
        u = { atFrameEnd s r now lows with
          outbox := u.outbox, latch := u.latch, suppression := u.suppression, censusRetry := u.censusRetry } ∧
        (s.mode ≠ .start ∨ s.joinCondition = true → countedFailure f s u) ∧
        (s.mode ≠ .fault → faultEntered .clash u t) ∧ (s.mode = .fault → t = u)))

/-- An accepted YIELD or RENEW (R52, R54, R56, R60, R95, R101): the silence age is 0, the renew timer runs from 0, the
intent is discarded and a covered RENEW removed; nothing else of the station changes, but for the known frame end,
which in START (a YIELD that R60 queued) meets the join condition (R126). -/
def Obligations.AcceptedFrameRenewsTheLease : Prop :=
  ∀ (reached now : Nat) (raw lows : List Low) (r : FrameRecord) (sent : SentFrame) (f : Flight) (s : State),
    s.followed = some r → r.role = .sender → r.sent = some sent →
    sent.fields.kind = .yield ∨ sent.fields.kind = .renew →
    reaches r reached now raw lows → 1010 ≤ now → r.mismatchBy sent now lows = none →
    r.voidSample.getD (voidSeen lows) = false → r.ackSample.getD (ackSeen lows) = true ∨ s.record.lone = true →
    s.outbox.inFlight = some f →
    let kept := s.outbox.renew.bind fun i => if i.covered then none else some i
    let joins := s.mode = .start ∧ s.joinCondition = false
    exec (.ownFrameOutcome ⟨reached, raw, .nothing⟩) s = .next { atFrameEnd s r now lows with
      ownAge := 0, renewTimer := .running 0, censusRetry := if joins then none else s.censusRetry
      outbox := { s.outbox with
        inFlight := none, renew := kept
        census := if joins then queuedInto s.outbox.census else s.outbox.census } }

/-- An accepted CLAIM (R52, R59, R60, R7): in MEMBER with droop hold clear the own holding takes the claimed value (and
OUTPUT is latched), and the recompute may only lower it again to the target, queuing a YIELD; otherwise the holding
stays and a YIELD is queued. Either way the lease is renewed, the roster and the rest of the station stay. -/
def Obligations.AcceptedClaimTakesTheClaimedValue : Prop :=
  ∀ (reached now : Nat) (raw lows : List Low) (r : FrameRecord) (sent : SentFrame) (f : Flight) (s : State),
    s.followed = some r → r.role = .sender → r.sent = some sent → sent.fields.kind = .claim →
    reaches r reached now raw lows → 1010 ≤ now → r.mismatchBy sent now lows = none →
    r.voidSample.getD (voidSeen lows) = false → r.ackSample.getD (ackSeen lows) = true ∨ s.record.lone = true →
    s.outbox.inFlight = some f →
    (s.mode = .member → s.droopHold = false → s.holding < sent.fields.holding → s.level ≤ s.holding →
      ∃ t, exec (.ownFrameOutcome ⟨reached, raw, .nothing⟩) s = .next t ∧
        t.target = t.fairTarget ∧ t.holding = min sent.fields.holding t.target ∧ t.rampTarget = t.holding ∧
        t.level ≤ t.holding ∧ t.latched .output = true ∧ t.outbox.inFlight = none ∧
        (t.target < sent.fields.holding → t.outbox.yield.isSome = true) ∧
        allocatorOnly { atFrameEnd s r now lows with ownAge := 0, renewTimer := .running 0 } t) ∧
    (s.mode ≠ .member ∨ s.droopHold = true →
      ∃ t, exec (.ownFrameOutcome ⟨reached, raw, .nothing⟩) s = .next t ∧
        t.outbox.yield = queuedInto s.outbox.yield ∧ t.outbox.inFlight = none ∧ t.outbox.claim = s.outbox.claim ∧
        t = { atFrameEnd s r now lows with
          ownAge := 0, renewTimer := .running 0, outbox := t.outbox, censusRetry := t.censusRetry })

/-- An accepted CENSUS (R52, R62, R128, R129): from START or ISOLATED the station enters LEARNING with the census
window open, the roster kept, any CENSUS waiting removed, and the advertised demand as LEARNING gives it, announced
when it is not the demand the frame carried (by a YIELD, else a CLAIM with the notice, else a RENEW: R86); in any other
state no state change follows. That the census retry timer stops here is the model's reading of R93 against the text at
R116 (DEDUCED, log 14). -/
def Obligations.AcceptedCensusEntersLearning : Prop :=
  ∀ (reached now : Nat) (raw lows : List Low) (r : FrameRecord) (sent : SentFrame) (f : Flight) (s : State),
    s.followed = some r → r.role = .sender → r.sent = some sent → sent.fields.kind = .census →
    reaches r reached now raw lows → 1010 ≤ now → r.mismatchBy sent now lows = none →
    r.voidSample.getD (voidSeen lows) = false → r.ackSample.getD (ackSeen lows) = true ∨ s.record.lone = true →
    s.outbox.inFlight = some f →
    (s.mode = .start ∨ s.mode = .isolated → s.holding = 0 → s.resetHeld = false →
      ∃ t, exec (.ownFrameOutcome ⟨reached, raw, .nothing⟩) s = .next t ∧
        t.outbox.census = none ∧ t.outbox.inFlight = none ∧ t.holding = 0 ∧
        t.advertised = (if s.droopHold then 0 else s.requested) ∧
        (t.advertised ≠ sent.fields.demand → announcing t.outbox) ∧
        allocatorOnly { atFrameEnd s r now lows with
          mode := .learning, windowCap := some 0, ownAge := 0, renewTimer := .running 0, joinCondition := false
          censusRetry := none } t) ∧
    (s.mode ≠ .start → s.mode ≠ .isolated →
      ∃ t, exec (.ownFrameOutcome ⟨reached, raw, .nothing⟩) s = .next t ∧ t = { atFrameEnd s r now lows with
        ownAge := 0, renewTimer := .running 0, outbox := t.outbox })

/-- A failed send (R51, R78, R80, R89, R90, R91, R96): a frame with a readback error, voided or unheard changes no roster
and no own value. Its intent returns with one more attempt, a notice of either record kept, and the backoff flag is set;
an intent cancelled while its frame was on the line is discarded, uncounted and with no backoff. -/
def Obligations.FailedFrameReturnsCounted : Prop :=
  ∀ (reached now : Nat) (raw lows : List Low) (r : FrameRecord) (sent : SentFrame) (f : Flight) (s : State),
    s.followed = some r → r.role = .sender → r.sent = some sent →
    reaches r reached now raw lows → 1010 ≤ now →
    (∃ k, r.mismatchBy sent now lows = some (.readback, k)) ∨
      (r.mismatchBy sent now lows = none ∧ (r.voidSample.getD (voidSeen lows) = true ∨
        (r.ackSample.getD (ackSeen lows) = false ∧ s.record.lone = false))) →
    s.outbox.inFlight = some f →
    (f.cancelled = false → f.intent.attempts + 1 < 8 →
      ∃ t, exec (.ownFrameOutcome ⟨reached, raw, .nothing⟩) s = .next t ∧
        t = { atFrameEnd s r now lows with outbox := t.outbox, censusRetry := t.censusRetry } ∧
        countedFailure f s t) ∧
    (f.cancelled = true → s.mode ≠ .start →
      exec (.ownFrameOutcome ⟨reached, raw, .nothing⟩) s = .next { atFrameEnd s r now lows with
        outbox := { s.outbox with
          inFlight := none, renew := s.outbox.renew.map fun i => { i with covered := false } } })

/-- The eighth failure by kind (R92, R93, R94): a CLAIM is abandoned, ABANDONED latched and suppression set, a notice it
carried left to a RENEW; a CENSUS is dropped and the census retry timer starts; a YIELD or RENEW stays with its count at
0. Holding, roster and state stay as they stood. (By BREAK and BREAK_LIMIT: BreakOpensAndCutsFrames and
BreakLimitVoidsOwnFrame.) -/
def Obligations.EighthFailureByKind : Prop :=
  ∀ (reached now : Nat) (raw lows : List Low) (r : FrameRecord) (sent : SentFrame) (f : Flight) (s : State),
    s.followed = some r → r.role = .sender → r.sent = some sent →
    reaches r reached now raw lows → 1010 ≤ now →
    (∃ k, r.mismatchBy sent now lows = some (.readback, k)) ∨
      (r.mismatchBy sent now lows = none ∧ (r.voidSample.getD (voidSeen lows) = true ∨
        (r.ackSample.getD (ackSeen lows) = false ∧ s.record.lone = false))) →
    s.outbox.inFlight = some f → f.cancelled = false → f.intent.attempts = 7 →
    s.mode ≠ .start ∨ s.joinCondition = true →
    ∃ t, exec (.ownFrameOutcome ⟨reached, raw, .nothing⟩) s = .next t ∧
      t = { atFrameEnd s r now lows with
        outbox := t.outbox, censusRetry := t.censusRetry, latch := t.latch, suppression := t.suppression } ∧
      countedFailure f s t

/-- The close of the census window (R129, R130, R105): 40T of quiet (400 in T/10, over the lengths the commands give,
none counted inside a followed frame: log 6) or the cap timer at R enters MEMBER, with a RENEW when the renew timer is
due and the station holds or wants current, and one recompute. Before both, nothing closes; neither does the quiet while
a frame is followed or a low is on the line. That the census retry timer stops here is the model's reading of R93
(DEDUCED, log 14). -/
def Obligations.WindowCloseEntersMember : Prop :=
  ∀ (high n : Nat) (s : State), s.resetHeld = false → s.mode = .learning → s.windowCap = some n →
    let renew := if s.renewTimer = .due ∧ (0 < s.holding ∨ 0 < s.advertised) then queuedInto s.outbox.renew
      else s.outbox.renew
    (s.lineLow = none → s.opening = none → s.frame = none → 400 ≤ s.highTime + high →
      exec (.quietClose high) s = .next (recompute { s with
        highTime := s.highTime + high, mode := .member, windowCap := none, censusRetry := none
        outbox := { s.outbox with renew := renew } })) ∧
    (s.lineLow = none → s.opening = none → s.frame = none → s.highTime + high < 400 →
      exec (.quietClose high) s = .next { s with highTime := s.highTime + high }) ∧
    (s.lineLow.isSome = true ∨ s.opening.isSome = true ∨ s.frame.isSome = true →
      exec (.quietClose high) s = .next s) ∧
    (s.lease / 4 ≤ n →
      exec .cap s = .next (recompute { s with
        mode := .member, windowCap := none, censusRetry := none, outbox := { s.outbox with renew := renew } })) ∧
    (n < s.lease / 4 → exec .cap s = .next s)

/-! ### The lease clock -/

/-- LAPSE and REMOVAL (R13, R14, R107, R108): at an age of P a LIVE entry becomes LAPSED and keeps holding, demand and
age, the roster sum unchanged; at P + H a LAPSED entry leaves the roster and its holding leaves the sum. Each latches
ROSTER, lifts suppression (R37) and brings a recompute. Before its age nothing happens. -/
def Obligations.LapseKeepsAndRemovalFreesTheHolding : Prop :=
  ∀ (a : Address) (e : Entry) (s : State), s.lineOn = true → s.RosterInv → findEntry a s.replicas = some e →
    let lapsed : State := { s with
      replicas := putEntry { e with status := .lapsed } s.replicas, latch := s.latch ||| 512, suppression := none }
    let removed : State := { s with
      replicas := dropEntry a s.replicas, latch := s.latch ||| 512, suppression := none }
    (e.status = .live → s.lease ≤ e.age →
      exec (.lapse a) s = .next (recompute lapsed) ∧ lapsed.rosterSum = s.rosterSum ∧
      findEntry a lapsed.replicas = some { e with status := .lapsed }) ∧
    (e.status = .live → e.age < s.lease → exec (.lapse a) s = .next s) ∧
    (e.status = .lapsed → s.lease + s.lease / 2 ≤ e.age →
      exec (.removal a) s = .next (recompute removed) ∧ removed.rosterSum + e.holding = s.rosterSum ∧
      findEntry a removed.replicas = none) ∧
    (e.status = .lapsed → e.age < s.lease + s.lease / 2 → exec (.removal a) s = .next s)

/-- SELF_LEASE (R110, R111, R98): in MEMBER at an own silence age of P the station sheds its load and enters ISOLATED
with a CENSUS and no YIELD; in every other state nothing happens. Where it falls together with the outcome of the own
frame, an acceptance taken first sets the silence age to 0 and the self lease is not reached (R112), or the entry
still follows the outcome and clears the collection (R101; OWN_FRAME_OUTCOME says so by its operand, log 32). -/
def Obligations.SelfLeaseShedsTheLoad : Prop :=
  ∀ s : State, s.resetHeld = false →
    (s.mode = .member → s.lease ≤ s.ownAge → s.OutputInv → s.RosterInv →
      ∃ t, exec .selfLease s = .next t ∧ t.mode = .isolated ∧ t.holding = 0 ∧ t.rampTarget = 0 ∧ t.level = 0 ∧
        t.target = 0 ∧ t.advertised = 0 ∧
        outboxHolds t.outbox none none none (some ⟨0, false, false⟩) false ∧
        (∀ f ∈ t.outbox.inFlight, f.cancelled = true) ∧ t.latched .isolated = true ∧
        (0 < s.holding → t.latched .output = true) ∧
        allocatorOnly { s with
          mode := .isolated, censusRetry := none, windowCap := none, muteWait := none, joinCondition := false } t) ∧
    (s.mode ≠ .member ∨ s.ownAge < s.lease → exec .selfLease s = .next s) ∧
    (∀ reached raw t, exec (.ownFrameOutcome ⟨reached, raw, .nothing⟩) s = .next t →
      (s.mode = .member → s.lease ≤ s.ownAge → s.sending = true → t.sending = false → t.mode = .member →
        ∃ u, exec (.ownFrameOutcome ⟨reached, raw, .selfLease⟩) s = .next u ∧ u.mode = .isolated ∧ u.ownAge = t.ownAge ∧
          exec .selfLease { t with ownAge := s.ownAge } = .next { u with ownAge := s.ownAge }) ∧
      (s.mode ≠ .member ∨ s.ownAge < s.lease ∨ s.sending = false ∨ t.sending = true ∨ t.mode ≠ .member →
        exec (.ownFrameOutcome ⟨reached, raw, .selfLease⟩) s = .next t))

/-- The expiries of the lease clock's own timers (R37, R93, R104, R105, R101): after R the renew timer is due, and in
MEMBER with a holding or advertised demand above 0 a RENEW is queued at once, with an own frame in flight as well.
Where the expiry falls together with the outcome of the own frame and the outcome comes to the outbox first, the RENEW
is queued behind it and stays, uncovered (R101; OWN_FRAME_OUTCOME says so by its operand, log 33). After R suppression
lifts and a recompute follows; after P a fresh CENSUS is queued in START and ISOLATED, and nothing in any other state.
Before its time none expires. -/
def Obligations.RenewSuppressionAndRetryTimersExpire : Prop :=
  ∀ (n : Nat) (s : State), s.resetHeld = false →
    (s.renewTimer = .running n → s.lease / 4 ≤ n → s.mode = .member → 0 < s.holding ∨ 0 < s.advertised →
      exec .renewTimerExpiry s = .next { s with
        renewTimer := .due, outbox := { s.outbox with renew := queuedInto s.outbox.renew } }) ∧
    (∀ reached raw t, exec (.ownFrameOutcome ⟨reached, raw, .nothing⟩) { s with renewTimer := .due } = .next t →
      s.renewTimer = .running n → s.lease / 4 ≤ n → s.sending = true → t.sending = false →
      (s.mode = .member → 0 < s.holding ∨ 0 < s.advertised → t.mode = .member →
        exec (.ownFrameOutcome ⟨reached, raw, .renewTimer⟩) s =
          .next { t with outbox := { t.outbox with renew := queuedInto t.outbox.renew } }) ∧
      (s.mode ≠ .member ∨ (s.holding = 0 ∧ s.advertised = 0) ∨ t.mode ≠ .member →
        exec (.ownFrameOutcome ⟨reached, raw, .renewTimer⟩) s = .next t)) ∧
    (∀ reached raw, s.sending = false ∨ (s.renewTimer = .running n ∧ n < s.lease / 4) →
      exec (.ownFrameOutcome ⟨reached, raw, .renewTimer⟩) s = exec (.ownFrameOutcome ⟨reached, raw, .nothing⟩) s) ∧
    (s.renewTimer = .running n → s.lease / 4 ≤ n → s.mode ≠ .member ∨ (s.holding = 0 ∧ s.advertised = 0) →
      exec .renewTimerExpiry s = .next { s with renewTimer := .due }) ∧
    (s.renewTimer = .running n → n < s.lease / 4 → exec .renewTimerExpiry s = .next s) ∧
    (s.suppression = some n → s.lease / 4 ≤ n →
      exec .suppressionTimerExpiry s = .next (recompute { s with suppression := none })) ∧
    (s.suppression = some n → n < s.lease / 4 → exec .suppressionTimerExpiry s = .next s) ∧
    (s.censusRetry = some n → s.lease ≤ n → s.mode = .start ∨ s.mode = .isolated →
      exec .censusRetryTimerExpiry s = .next { s with
        censusRetry := none, outbox := { s.outbox with census := queuedInto s.outbox.census } }) ∧
    (s.censusRetry = some n → s.lease ≤ n → s.mode ≠ .start → s.mode ≠ .isolated →
      exec .censusRetryTimerExpiry s = .next { s with censusRetry := none }) ∧
    (s.censusRetry = some n → n < s.lease → exec .censusRetryTimerExpiry s = .next s)

/-- MUTE_WAIT_EXPIRY (R158, R124): after 2P in MUTE the station enters START with the values of R124's mute column. -/
def Obligations.MuteWaitEndsInStart : Prop :=
  ∀ (n : Nat) (s : State), s.resetHeld = false → s.mode = .mute → s.muteWait = some n → s.holding = 0 →
    (2 * s.lease ≤ n →
      ∃ t, exec .muteWaitExpiry s = .next t ∧ t.target = t.fairTarget ∧
        t = { s with
          mode := .start, faultCause := .none, voidRun := 0, replicas := [], target := t.target, suppression := none
          outbox := s.outbox.clear, censusRetry := none, synchronised := false, joinCondition := false, highTime := 0
          wakeArmed := false, renewTimer := .stopped, windowCap := none, muteWait := none
          level := 0, rampTarget := 0, settle := 8, overdrawRun := 0, underRun := 0, under := false }) ∧
    (n < 2 * s.lease → exec .muteWaitExpiry s = .next s)

/-! ### The load side -/

/-- RAMP_STEP (R138, R139): below the ramp target the level rises by one unit, a level change; no event is latched.
At the target nothing happens. DRIVE regulates to the level times the unit size of byte 3's bits 7 and 6, 5, 10, 25 or
50 mA (R1, R136), and to 0 in UNCONFIGURED and while RESET is held (R118, R122). -/
def Obligations.RampStepRaisesByOneUnit : Prop :=
  ∀ s : State,
    (s.resetHeld = false → s.level < s.rampTarget →
      exec .rampStep s = .next { s with
        level := s.level + 1, settle := 8, overdrawRun := 0, underRun := 0, under := false }) ∧
    (s.resetHeld = false → s.rampTarget ≤ s.level → exec .rampStep s = .next s) ∧
    (s.resetHeld = false → s.mode ≠ .unconfigured →
      s.driveMilliamps = s.level * match s.record.b3.getLsbD 7, s.record.b3.getLsbD 6 with
        | false, false => 5 | false, true => 10 | true, false => 25 | true, true => 50) ∧
    (s.resetHeld = true ∨ s.mode = .unconfigured → s.driveMilliamps = 0)

/-- SAMPLE (R139, R140, R141, R150, R151): an invalid sample only lowers the settle count. A valid one above L + 1
raises the overdraw run, and the fourth in a row reports an overdraw, which enters FAULT with cause OVERDRAW at that
sample (in FAULT it only starts the run again). An event of the same moment may be taken first, a self lease (R112), a
CLEAR (R154) or the end of the mute wait (R159): it does what its command does, and the report then enters FAULT from
the state that it leaves (log 33). One below L − 2, at a level of 3 or more, raises the under run, and the sixteenth
sets UNDER and latches it. Codes saturate at 255 (R1). Outside the six running states no sample is taken. -/
def Obligations.SampleIsJudgedAgainstTheLevel : Prop :=
  ∀ (sensed : Nat) (first : Between) (s : State),
    (s.lineOn = false → exec (.sample ⟨sensed, first⟩) s = .next s) ∧
    (s.lineOn = true →
      (0 < s.settle → exec (.sample ⟨sensed, first⟩) s = .next { s with settle := s.settle - 1 }) ∧
      (s.settle = 0 → s.level + 1 < min 255 sensed → s.overdrawRun < 3 →
        exec (.sample ⟨sensed, first⟩) s = .next { s with
          overdrawRun := s.overdrawRun + 1
          underRun := if s.level < 3 then s.underRun else 0
          under := if s.level < 3 then s.under else false }) ∧
      (s.settle = 0 → s.level + 1 < min 255 sensed → s.overdrawRun = 3 → s.mode ≠ .fault → first = .nothing →
        s.OutputInv → s.RosterInv →
        ∃ t, exec (.sample ⟨sensed, first⟩) s = .next t ∧ faultEntered .overdraw s t ∧ t.overdrawRun = 0) ∧
      (s.settle = 0 → s.level + 1 < min 255 sensed → s.overdrawRun = 3 →
        let judged : State := { s with
          overdrawRun := 0
          underRun := if s.level < 3 then s.underRun else 0
          under := if s.level < 3 then s.under else false }
        (s.mode = .fault → first = .nothing → exec (.sample ⟨sensed, first⟩) s = .next judged) ∧
        (s.OutputInv → s.RosterInv →
          ∀ u, (first = .selfLease ∧ exec .selfLease judged = .next u) ∨
              (first = .clear ∧ exec .clear judged = .next u) ∨
              (first = .muteWait ∧ exec .muteWaitExpiry judged = .next u) →
            (u.mode ≠ .fault →
              ∃ t, exec (.sample ⟨sensed, first⟩) s = .next t ∧ faultEntered .overdraw u t ∧ t.overdrawRun = 0) ∧
            (u.mode = .fault → exec (.sample ⟨sensed, first⟩) s = .next u))) ∧
      (s.settle = 0 → 3 ≤ s.level → sensed + 2 < s.level → s.level ≤ 255 → s.underRun < 15 →
        exec (.sample ⟨sensed, first⟩) s = .next { s with overdrawRun := 0, underRun := s.underRun + 1 }) ∧
      (s.settle = 0 → 3 ≤ s.level → sensed + 2 < s.level → s.level ≤ 255 → s.underRun = 15 → s.under = false →
        exec (.sample ⟨sensed, first⟩) s = .next { s with
          overdrawRun := 0, underRun := 16, under := true, latch := s.latch ||| 256 }) ∧
      (s.settle = 0 → 3 ≤ s.level → sensed + 2 < s.level → s.level ≤ 255 → s.underRun = 16 →
        exec (.sample ⟨sensed, first⟩) s = .next { s with overdrawRun := 0 }) ∧
      (s.settle = 0 → min 255 sensed ≤ s.level + 1 → s.level ≤ min 255 sensed + 2 →
        exec (.sample ⟨sensed, first⟩) s = .next { s with
          overdrawRun := 0
          underRun := if s.level < 3 then s.underRun else 0
          under := if s.level < 3 then s.under else false }))

/-- DROOP_ASSERTION (R142, R143): with the monitor running, a change to asserted sets droop hold, stops the recovery
timer, takes the holding, the level and the advertised demand to 0, removes any CLAIM and cancels one in flight,
queues a YIELD when the holding was above 0 and otherwise, in LEARNING and MEMBER with no YIELD waiting, a RENEW that is
not covered when the advertised demand was, and latches DROOP. An input asserted already, or a monitor that does not
run, gives nothing. -/
def Obligations.DroopAssertionDropsTheLoad : Prop :=
  ∀ s : State,
    (s.droopMonitorOn = true → s.supplyLow = false → s.OutputInv → s.HoldingInv →
      ∃ t, exec .droopAssertion s = .next t ∧ t.supplyLow = true ∧ t.droopHold = true ∧ t.recovery = none ∧
        t.holding = 0 ∧ t.level = 0 ∧ t.rampTarget = 0 ∧ t.advertised = 0 ∧ t.outbox.claim = none ∧
        (∀ f ∈ t.outbox.inFlight, f.kind = .claim → f.cancelled = true) ∧ t.latched .droop = true ∧
        (0 < s.holding → t.latched .output = true ∧ t.outbox.yield.isSome = true) ∧
        (s.mode = .learning ∨ s.mode = .member → s.holding = 0 → 0 < s.advertised → s.outbox.yield = none →
          ∃ i, t.outbox.renew = some i ∧ i.covered = false) ∧
        (s.holding = 0 → s.advertised = 0 → t = { s with
          supplyLow := true, droopHold := true, recovery := none, latch := s.latch ||| 8, outbox := t.outbox }) ∧
        allocatorOnly { s with supplyLow := true, droopHold := true, recovery := none } t) ∧
    (s.droopMonitorOn = false ∨ s.supplyLow = true → exec .droopAssertion s = .next s)

/-- DROOP_DEASSERTION and RECOVERY_TIMER_EXPIRY (R144): a deassertion with droop hold set starts the recovery timer
from 0, and with it clear starts nothing. After R droop hold clears; the advertised demand is what the state gives,
the allocator recomputes, and in LEARNING and MEMBER a change is announced by a YIELD, else a CLAIM with the notice,
else a RENEW that is not covered (R86). In the states that advertise nothing only droop hold, the timer and the target
change. -/
def Obligations.RecoveryClearsDroopHold : Prop :=
  ∀ s : State, s.droopMonitorOn = true →
    (s.supplyLow = true →
      exec .droopDeassertion s = .next { s with
        supplyLow := false, recovery := if s.droopHold then some 0 else s.recovery }) ∧
    (s.supplyLow = false → exec .droopDeassertion s = .next s) ∧
    (∀ n, s.recovery = some n → s.droopHold = true → s.holding = 0 → s.RosterInv →
      (s.lease / 4 ≤ n → s.mode = .start ∨ s.mode = .learning ∨ s.mode = .member →
        ∃ t, exec .recoveryTimerExpiry s = .next t ∧ t.advertised = s.requested ∧ t.target = t.fairTarget ∧
          t.holding = 0 ∧ t.latch = s.latch ∧
          (s.mode = .start → t.outbox = s.outbox) ∧
          (s.mode ≠ .start → 0 < s.requested → announcing t.outbox) ∧
          allocatorOnly { s with droopHold := false, recovery := none } t) ∧
      (s.lease / 4 ≤ n → s.mode = .isolated ∨ s.mode = .fault ∨ s.mode = .mute →
        exec .recoveryTimerExpiry s = .next { s with droopHold := false, recovery := none, target := 0 }) ∧
      (n < s.lease / 4 → exec .recoveryTimerExpiry s = .next s))

/-! ### The allocator -/

/-- The recompute and the three courses of the balance action (R31 to R34): above the target the holding and the
level fall to it at once, OUTPUT is latched and a YIELD is queued; below it, in MEMBER with droop hold clear, free
above 0, no overcommit and no suppression, a CLAIM is queued; otherwise only the target is replaced. -/
def Obligations.BalanceTakesOneOfThreeCourses : Prop :=
  ∀ s : State,
    let u := s.fairTarget
    let claims := s.holding < u ∧ s.mode = .member ∧ s.droopHold = false ∧ s.rosterSum < s.budget ∧
      s.suppression = none
    (u < s.holding →
      recompute s = { s with
        target := u, holding := u, rampTarget := u, level := min s.level u
        settle := if u < s.level then 8 else s.settle
        overdrawRun := if u < s.level then 0 else s.overdrawRun
        underRun := if u < s.level then 0 else s.underRun
        under := if u < s.level then false else s.under
        latch := s.latch ||| 32
        suppression := none
        outbox := { s.outbox with
          yield := some { (s.outbox.yield.getD ⟨0, false, false⟩) with covered := false } } }) ∧
    (claims →
      recompute s = { s with
        target := u
        outbox := { s.outbox with
          claim := some { (s.outbox.claim.getD ⟨0, false, false⟩) with covered := false } } }) ∧
    (¬ u < s.holding → ¬ claims → recompute s = { s with target := u })

/-- The level L (R28), the whole rule: the largest number in 0..255 at which the first shares fit; at 0 their sum is
0; when all demands fit, the sum at 255 is the full demand and L is 255; when they do not, one more unit for every
member whose demand exceeds L would overrun. -/
def Obligations.FairLevelIsTheLargestThatFits : Prop :=
  ∀ (b : Nat) (w : List Entry), (∀ e ∈ w, e.demand ≤ 255) →
    let l := fairLevel b w
    let total := (w.map Entry.demand).sum
    l ≤ 255 ∧ (w.map fun e => min e.demand l).sum ≤ b ∧
    (∀ n, n ≤ 255 → (w.map fun e => min e.demand n).sum ≤ b → n ≤ l) ∧
    (w.map fun e => min e.demand 0).sum = 0 ∧
    (total ≤ b → (w.map fun e => min e.demand 255).sum = total ∧ l = 255) ∧
    (b < total →
      b < (w.map fun e => min e.demand l).sum + (w.filter fun e => decide (l < e.demand)).length)

/-- The targets (R27, R29): with B′ above 0 there is one for each LIVE entry with a demand, in the order of the roster,
and no other. Each is the first share, the smaller of the demand and L; the remainder, what the first shares leave of
B′, goes one unit each to the first of those whose demand exceeds L, which in a roster are those of the lowest addresses;
none exceeds its demand. Together they sum to B′ or less, and to B′ whenever L is below 255. Read at an address of the
roster, the target is the one listed there. With B′ at 0 or below every target is 0, and so is that of an entry outside
W. The own target (R30) of a station with an own entry is the number listed at its own address, 0 where none is, over
the roster of its peers' entries and its own (R4, R6, R25): LIVE, with its holding and its advertised demand. -/
def Obligations.FairTargetsFitTheReducedBudget : Prop :=
  (∀ (budget : Nat) (l : List Entry), (∀ e ∈ l, e.demand ≤ 255) →
    let w := l.filter fun e => decide (e.status = .live) && decide (0 < e.demand)
    let lapsed := ((l.filter fun e => decide (e.status = .lapsed)).map Entry.holding).sum
    let level := fairLevel (budget - lapsed) w
    let remainder := (budget - lapsed) - (w.map fun e => min e.demand level).sum
    let targets := fairTargets budget l
    (lapsed < budget →
      targets.map Prod.fst = w.map Entry.address ∧
      (∀ pre e post, w = pre ++ e :: post →
        targets[pre.length]? = some (e.address, min e.demand level +
          if level < e.demand ∧ (pre.filter fun x => decide (level < x.demand)).length < remainder then 1 else 0)) ∧
      (rising l = true → ∀ pre e post, w = pre ++ e :: post → ∀ x ∈ pre, x.address < e.address) ∧
      (rising l = true → ∀ p ∈ targets, targetAt budget l p.1 = p.2) ∧
      (∀ p ∈ targets, ∃ e ∈ w, e.address = p.1 ∧ p.2 ≤ e.demand) ∧
      (targets.map Prod.snd).sum ≤ budget - lapsed ∧
      (level < 255 → (targets.map Prod.snd).sum = budget - lapsed)) ∧
    (budget ≤ lapsed → ∀ a, targetAt budget l a = 0) ∧
    (∀ a, (∀ e ∈ w, e.address ≠ a) → targetAt budget l a = 0)) ∧
  (∀ s : State, s.RosterInv → s.resetHeld = false → s.mode ≠ .unconfigured →
    let own : Entry := ⟨s.address, .live, s.holding, s.advertised, s.ownAge⟩
    let listed := fairTargets s.record.b1.toNat (putEntry own s.replicas)
    s.advertised = (if (s.mode = .start ∨ s.mode = .learning ∨ s.mode = .member) ∧ s.droopHold = false then s.requested
      else 0) ∧
    (∀ p ∈ listed, p.1 = s.address → s.fairTarget = p.2) ∧
    ((∀ p ∈ listed, p.1 ≠ s.address) → s.fairTarget = 0))

/-! ### What every step keeps -/

/-- The output never exceeds the own holding, and a holding exists only in MEMBER with droop hold clear (R136, R7):
kept by every step, commands and lease ticks alike. -/
def Obligations.OutputStaysWithinHolding : Prop :=
  ∀ s t : State, s.OutputInv → s.HoldingInv → step s = .next t → t.OutputInv ∧ t.HoldingInv

/-- The roster stays a table with one entry for each address in ascending order, and no replica at the own address
(R4, R7), and a receiver's verdict of ACK stands over a frame of another station alone (R43, R46): kept by every step. -/
def Obligations.RosterStaysATable : Prop :=
  ∀ s t : State, s.RosterInv → s.VerdictInv → step s = .next t → t.RosterInv ∧ t.VerdictInv

/-- The station is in FAULT exactly while a fault cause is recorded (R149), runs, counts and ages stay in their ranges
(R5, R6, R48, 08 section 8.2), and every current quantity stays in 0..255 (R1): kept by every step. -/
def Obligations.CausesCountsAndQuantitiesStayLegal : Prop :=
  ∀ s t : State, step s = .next t →
    (s.FaultInv → t.FaultInv) ∧ (s.CountInv → t.CountInv) ∧ (s.UnitInv → t.UnitInv)

/-- The outbox keeps its law (R84, R90): attempt counts below 8, an intent in flight exactly while an own frame is on
the line, and never both a break and a frame's record (R72): kept by every step. -/
def Obligations.OutboxKeepsItsLaw : Prop :=
  ∀ s t : State, s.OutboxInv → step s = .next t → t.OutboxInv

/-- A station raises its own holding only at the acceptance of its own CLAIM, in MEMBER with droop hold clear, and
only to the claimed value (R7): the own frame has come to its end with no break inside it, read back as sent, with the
VOID slot clear and the ACK slot asserted, or clear as well under LONE (R80). -/
def Obligations.OnlyAnAcceptedClaimRaisesTheHolding : Prop :=
  ∀ (c : Instr) (s t : State), exec c s = .next t → s.holding < t.holding →
    s.mode = .member ∧ s.droopHold = false ∧
    ∃ reached now raw lows behind r f, c = .ownFrameOutcome ⟨reached, raw, behind⟩ ∧ s.followed = some r ∧
    r.role = .sender ∧
      r.sent = some f ∧ f.fields.kind = .claim ∧ reaches r reached now raw lows ∧ 1010 ≤ now ∧
      r.mismatchBy f now lows = none ∧ r.voidSample.getD (voidSeen lows) = false ∧
      (r.ackSample.getD (ackSeen lows) = true ∨ s.record.lone = true) ∧
      t.holding ≤ f.fields.holding

/-- State.reset meets every condition that the steps keep. -/
def Obligations.ResetMeetsEveryInvariant : Prop :=
  State.reset.RosterInv ∧ State.reset.VerdictInv ∧ State.reset.OutputInv ∧ State.reset.HoldingInv ∧
  State.reset.FaultInv ∧ State.reset.CountInv ∧ State.reset.OutboxInv ∧ State.reset.UnitInv ∧ State.reset.SilentInv
end

