-- ==== Sys2Proof/Laws/State.lean ====
section
/-! SUPPORT. One lemma for each field under each plain update of the state, true by `rfl`, so that no later proof
unfolds a record update. -/

set_option Elab.async false

namespace Sys2Proof.Machine

/-! ### `latchEvent` -/

@[simp] theorem latchEvent_resetHeld (k : EventKind) (s : State) : (latchEvent k s).resetHeld = s.resetHeld := rfl
@[simp] theorem latchEvent_oneTime (k : EventKind) (s : State) : (latchEvent k s).oneTime = s.oneTime := rfl
@[simp] theorem latchEvent_writing (k : EventKind) (s : State) : (latchEvent k s).writing = s.writing := rfl
@[simp] theorem latchEvent_written (k : EventKind) (s : State) : (latchEvent k s).written = s.written := rfl
@[simp] theorem latchEvent_address (k : EventKind) (s : State) : (latchEvent k s).address = s.address := rfl
@[simp] theorem latchEvent_record (k : EventKind) (s : State) : (latchEvent k s).record = s.record := rfl
@[simp] theorem latchEvent_cause (k : EventKind) (s : State) : (latchEvent k s).cause = s.cause := rfl
@[simp] theorem latchEvent_mode (k : EventKind) (s : State) : (latchEvent k s).mode = s.mode := rfl
@[simp] theorem latchEvent_faultCause (k : EventKind) (s : State) : (latchEvent k s).faultCause = s.faultCause := rfl
@[simp] theorem latchEvent_voidRun (k : EventKind) (s : State) : (latchEvent k s).voidRun = s.voidRun := rfl
@[simp] theorem latchEvent_replicas (k : EventKind) (s : State) : (latchEvent k s).replicas = s.replicas := rfl
@[simp] theorem latchEvent_holding (k : EventKind) (s : State) : (latchEvent k s).holding = s.holding := rfl
@[simp] theorem latchEvent_ownAge (k : EventKind) (s : State) : (latchEvent k s).ownAge = s.ownAge := rfl
@[simp] theorem latchEvent_requested (k : EventKind) (s : State) : (latchEvent k s).requested = s.requested := rfl
@[simp] theorem latchEvent_target (k : EventKind) (s : State) : (latchEvent k s).target = s.target := rfl
@[simp] theorem latchEvent_suppression (k : EventKind) (s : State) : (latchEvent k s).suppression = s.suppression := rfl
@[simp] theorem latchEvent_outbox (k : EventKind) (s : State) : (latchEvent k s).outbox = s.outbox := rfl
@[simp] theorem latchEvent_censusRetry (k : EventKind) (s : State) : (latchEvent k s).censusRetry = s.censusRetry := rfl
@[simp] theorem latchEvent_opening (k : EventKind) (s : State) : (latchEvent k s).opening = s.opening := rfl
@[simp] theorem latchEvent_frame (k : EventKind) (s : State) : (latchEvent k s).frame = s.frame := rfl
@[simp] theorem latchEvent_synchronised (k : EventKind) (s : State) : (latchEvent k s).synchronised = s.synchronised := rfl
@[simp] theorem latchEvent_joinCondition (k : EventKind) (s : State) : (latchEvent k s).joinCondition = s.joinCondition := rfl
@[simp] theorem latchEvent_highTime (k : EventKind) (s : State) : (latchEvent k s).highTime = s.highTime := rfl
@[simp] theorem latchEvent_lineLow (k : EventKind) (s : State) : (latchEvent k s).lineLow = s.lineLow := rfl
@[simp] theorem latchEvent_wakeArmed (k : EventKind) (s : State) : (latchEvent k s).wakeArmed = s.wakeArmed := rfl
@[simp] theorem latchEvent_renewTimer (k : EventKind) (s : State) : (latchEvent k s).renewTimer = s.renewTimer := rfl
@[simp] theorem latchEvent_windowCap (k : EventKind) (s : State) : (latchEvent k s).windowCap = s.windowCap := rfl
@[simp] theorem latchEvent_muteWait (k : EventKind) (s : State) : (latchEvent k s).muteWait = s.muteWait := rfl
@[simp] theorem latchEvent_level (k : EventKind) (s : State) : (latchEvent k s).level = s.level := rfl
@[simp] theorem latchEvent_rampTarget (k : EventKind) (s : State) : (latchEvent k s).rampTarget = s.rampTarget := rfl
@[simp] theorem latchEvent_settle (k : EventKind) (s : State) : (latchEvent k s).settle = s.settle := rfl
@[simp] theorem latchEvent_overdrawRun (k : EventKind) (s : State) : (latchEvent k s).overdrawRun = s.overdrawRun := rfl
@[simp] theorem latchEvent_underRun (k : EventKind) (s : State) : (latchEvent k s).underRun = s.underRun := rfl
@[simp] theorem latchEvent_under (k : EventKind) (s : State) : (latchEvent k s).under = s.under := rfl
@[simp] theorem latchEvent_supplyLow (k : EventKind) (s : State) : (latchEvent k s).supplyLow = s.supplyLow := rfl
@[simp] theorem latchEvent_droopHold (k : EventKind) (s : State) : (latchEvent k s).droopHold = s.droopHold := rfl
@[simp] theorem latchEvent_recovery (k : EventKind) (s : State) : (latchEvent k s).recovery = s.recovery := rfl
@[simp] theorem latchEvent_latch (k : EventKind) (s : State) : (latchEvent k s).latch = s.latch ||| k.word := rfl
@[simp] theorem latchEvent_mask (k : EventKind) (s : State) : (latchEvent k s).mask = s.mask := rfl
@[simp] theorem latchEvent_straddling (k : EventKind) (s : State) : (latchEvent k s).straddling = s.straddling := rfl
@[simp] theorem latchEvent_reply (k : EventKind) (s : State) : (latchEvent k s).reply = s.reply := rfl
@[simp] theorem latchEvent_fresh (k : EventKind) (s : State) : (latchEvent k s).fresh = s.fresh := rfl
@[simp] theorem latchEvent_pending (k : EventKind) (s : State) : (latchEvent k s).pending = s.pending := rfl

/-! ### `setLevel` -/

@[simp] theorem setLevel_resetHeld (n : Nat) (s : State) : (setLevel n s).resetHeld = s.resetHeld := rfl
@[simp] theorem setLevel_oneTime (n : Nat) (s : State) : (setLevel n s).oneTime = s.oneTime := rfl
@[simp] theorem setLevel_writing (n : Nat) (s : State) : (setLevel n s).writing = s.writing := rfl
@[simp] theorem setLevel_written (n : Nat) (s : State) : (setLevel n s).written = s.written := rfl
@[simp] theorem setLevel_address (n : Nat) (s : State) : (setLevel n s).address = s.address := rfl
@[simp] theorem setLevel_record (n : Nat) (s : State) : (setLevel n s).record = s.record := rfl
@[simp] theorem setLevel_cause (n : Nat) (s : State) : (setLevel n s).cause = s.cause := rfl
@[simp] theorem setLevel_mode (n : Nat) (s : State) : (setLevel n s).mode = s.mode := rfl
@[simp] theorem setLevel_faultCause (n : Nat) (s : State) : (setLevel n s).faultCause = s.faultCause := rfl
@[simp] theorem setLevel_voidRun (n : Nat) (s : State) : (setLevel n s).voidRun = s.voidRun := rfl
@[simp] theorem setLevel_replicas (n : Nat) (s : State) : (setLevel n s).replicas = s.replicas := rfl
@[simp] theorem setLevel_holding (n : Nat) (s : State) : (setLevel n s).holding = s.holding := rfl
@[simp] theorem setLevel_ownAge (n : Nat) (s : State) : (setLevel n s).ownAge = s.ownAge := rfl
@[simp] theorem setLevel_requested (n : Nat) (s : State) : (setLevel n s).requested = s.requested := rfl
@[simp] theorem setLevel_target (n : Nat) (s : State) : (setLevel n s).target = s.target := rfl
@[simp] theorem setLevel_suppression (n : Nat) (s : State) : (setLevel n s).suppression = s.suppression := rfl
@[simp] theorem setLevel_outbox (n : Nat) (s : State) : (setLevel n s).outbox = s.outbox := rfl
@[simp] theorem setLevel_censusRetry (n : Nat) (s : State) : (setLevel n s).censusRetry = s.censusRetry := rfl
@[simp] theorem setLevel_opening (n : Nat) (s : State) : (setLevel n s).opening = s.opening := rfl
@[simp] theorem setLevel_frame (n : Nat) (s : State) : (setLevel n s).frame = s.frame := rfl
@[simp] theorem setLevel_synchronised (n : Nat) (s : State) : (setLevel n s).synchronised = s.synchronised := rfl
@[simp] theorem setLevel_joinCondition (n : Nat) (s : State) : (setLevel n s).joinCondition = s.joinCondition := rfl
@[simp] theorem setLevel_highTime (n : Nat) (s : State) : (setLevel n s).highTime = s.highTime := rfl
@[simp] theorem setLevel_lineLow (n : Nat) (s : State) : (setLevel n s).lineLow = s.lineLow := rfl
@[simp] theorem setLevel_wakeArmed (n : Nat) (s : State) : (setLevel n s).wakeArmed = s.wakeArmed := rfl
@[simp] theorem setLevel_renewTimer (n : Nat) (s : State) : (setLevel n s).renewTimer = s.renewTimer := rfl
@[simp] theorem setLevel_windowCap (n : Nat) (s : State) : (setLevel n s).windowCap = s.windowCap := rfl
@[simp] theorem setLevel_muteWait (n : Nat) (s : State) : (setLevel n s).muteWait = s.muteWait := rfl
@[simp] theorem setLevel_level (n : Nat) (s : State) : (setLevel n s).level = n := rfl
@[simp] theorem setLevel_rampTarget (n : Nat) (s : State) : (setLevel n s).rampTarget = s.rampTarget := rfl
@[simp] theorem setLevel_settle (n : Nat) (s : State) : (setLevel n s).settle = 8 := rfl
@[simp] theorem setLevel_overdrawRun (n : Nat) (s : State) : (setLevel n s).overdrawRun = 0 := rfl
@[simp] theorem setLevel_underRun (n : Nat) (s : State) : (setLevel n s).underRun = 0 := rfl
@[simp] theorem setLevel_under (n : Nat) (s : State) : (setLevel n s).under = false := rfl
@[simp] theorem setLevel_supplyLow (n : Nat) (s : State) : (setLevel n s).supplyLow = s.supplyLow := rfl
@[simp] theorem setLevel_droopHold (n : Nat) (s : State) : (setLevel n s).droopHold = s.droopHold := rfl
@[simp] theorem setLevel_recovery (n : Nat) (s : State) : (setLevel n s).recovery = s.recovery := rfl
@[simp] theorem setLevel_latch (n : Nat) (s : State) : (setLevel n s).latch = s.latch := rfl
@[simp] theorem setLevel_mask (n : Nat) (s : State) : (setLevel n s).mask = s.mask := rfl
@[simp] theorem setLevel_straddling (n : Nat) (s : State) : (setLevel n s).straddling = s.straddling := rfl
@[simp] theorem setLevel_reply (n : Nat) (s : State) : (setLevel n s).reply = s.reply := rfl
@[simp] theorem setLevel_fresh (n : Nat) (s : State) : (setLevel n s).fresh = s.fresh := rfl
@[simp] theorem setLevel_pending (n : Nat) (s : State) : (setLevel n s).pending = s.pending := rfl

/-! ### `queueIntent` -/

@[simp] theorem queueIntent_resetHeld (k : Kind) (s : State) : (queueIntent k s).resetHeld = s.resetHeld := rfl
@[simp] theorem queueIntent_oneTime (k : Kind) (s : State) : (queueIntent k s).oneTime = s.oneTime := rfl
@[simp] theorem queueIntent_writing (k : Kind) (s : State) : (queueIntent k s).writing = s.writing := rfl
@[simp] theorem queueIntent_written (k : Kind) (s : State) : (queueIntent k s).written = s.written := rfl
@[simp] theorem queueIntent_address (k : Kind) (s : State) : (queueIntent k s).address = s.address := rfl
@[simp] theorem queueIntent_record (k : Kind) (s : State) : (queueIntent k s).record = s.record := rfl
@[simp] theorem queueIntent_cause (k : Kind) (s : State) : (queueIntent k s).cause = s.cause := rfl
@[simp] theorem queueIntent_mode (k : Kind) (s : State) : (queueIntent k s).mode = s.mode := rfl
@[simp] theorem queueIntent_faultCause (k : Kind) (s : State) : (queueIntent k s).faultCause = s.faultCause := rfl
@[simp] theorem queueIntent_voidRun (k : Kind) (s : State) : (queueIntent k s).voidRun = s.voidRun := rfl
@[simp] theorem queueIntent_replicas (k : Kind) (s : State) : (queueIntent k s).replicas = s.replicas := rfl
@[simp] theorem queueIntent_holding (k : Kind) (s : State) : (queueIntent k s).holding = s.holding := rfl
@[simp] theorem queueIntent_ownAge (k : Kind) (s : State) : (queueIntent k s).ownAge = s.ownAge := rfl
@[simp] theorem queueIntent_requested (k : Kind) (s : State) : (queueIntent k s).requested = s.requested := rfl
@[simp] theorem queueIntent_target (k : Kind) (s : State) : (queueIntent k s).target = s.target := rfl
@[simp] theorem queueIntent_suppression (k : Kind) (s : State) : (queueIntent k s).suppression = s.suppression := rfl
@[simp] theorem queueIntent_outbox (k : Kind) (s : State) : (queueIntent k s).outbox = s.outbox.put k (mergeQueued (s.outbox.get k)) := rfl
@[simp] theorem queueIntent_censusRetry (k : Kind) (s : State) : (queueIntent k s).censusRetry = if k = .census then none else s.censusRetry := rfl
@[simp] theorem queueIntent_opening (k : Kind) (s : State) : (queueIntent k s).opening = s.opening := rfl
@[simp] theorem queueIntent_frame (k : Kind) (s : State) : (queueIntent k s).frame = s.frame := rfl
@[simp] theorem queueIntent_synchronised (k : Kind) (s : State) : (queueIntent k s).synchronised = s.synchronised := rfl
@[simp] theorem queueIntent_joinCondition (k : Kind) (s : State) : (queueIntent k s).joinCondition = s.joinCondition := rfl
@[simp] theorem queueIntent_highTime (k : Kind) (s : State) : (queueIntent k s).highTime = s.highTime := rfl
@[simp] theorem queueIntent_lineLow (k : Kind) (s : State) : (queueIntent k s).lineLow = s.lineLow := rfl
@[simp] theorem queueIntent_wakeArmed (k : Kind) (s : State) : (queueIntent k s).wakeArmed = s.wakeArmed := rfl
@[simp] theorem queueIntent_renewTimer (k : Kind) (s : State) : (queueIntent k s).renewTimer = s.renewTimer := rfl
@[simp] theorem queueIntent_windowCap (k : Kind) (s : State) : (queueIntent k s).windowCap = s.windowCap := rfl
@[simp] theorem queueIntent_muteWait (k : Kind) (s : State) : (queueIntent k s).muteWait = s.muteWait := rfl
@[simp] theorem queueIntent_level (k : Kind) (s : State) : (queueIntent k s).level = s.level := rfl
@[simp] theorem queueIntent_rampTarget (k : Kind) (s : State) : (queueIntent k s).rampTarget = s.rampTarget := rfl
@[simp] theorem queueIntent_settle (k : Kind) (s : State) : (queueIntent k s).settle = s.settle := rfl
@[simp] theorem queueIntent_overdrawRun (k : Kind) (s : State) : (queueIntent k s).overdrawRun = s.overdrawRun := rfl
@[simp] theorem queueIntent_underRun (k : Kind) (s : State) : (queueIntent k s).underRun = s.underRun := rfl
@[simp] theorem queueIntent_under (k : Kind) (s : State) : (queueIntent k s).under = s.under := rfl
@[simp] theorem queueIntent_supplyLow (k : Kind) (s : State) : (queueIntent k s).supplyLow = s.supplyLow := rfl
@[simp] theorem queueIntent_droopHold (k : Kind) (s : State) : (queueIntent k s).droopHold = s.droopHold := rfl
@[simp] theorem queueIntent_recovery (k : Kind) (s : State) : (queueIntent k s).recovery = s.recovery := rfl
@[simp] theorem queueIntent_latch (k : Kind) (s : State) : (queueIntent k s).latch = s.latch := rfl
@[simp] theorem queueIntent_mask (k : Kind) (s : State) : (queueIntent k s).mask = s.mask := rfl
@[simp] theorem queueIntent_straddling (k : Kind) (s : State) : (queueIntent k s).straddling = s.straddling := rfl
@[simp] theorem queueIntent_reply (k : Kind) (s : State) : (queueIntent k s).reply = s.reply := rfl
@[simp] theorem queueIntent_fresh (k : Kind) (s : State) : (queueIntent k s).fresh = s.fresh := rfl
@[simp] theorem queueIntent_pending (k : Kind) (s : State) : (queueIntent k s).pending = s.pending := rfl

/-! ### `clearOutbox` -/

@[simp] theorem clearOutbox_resetHeld (s : State) : (clearOutbox s).resetHeld = s.resetHeld := rfl
@[simp] theorem clearOutbox_oneTime (s : State) : (clearOutbox s).oneTime = s.oneTime := rfl
@[simp] theorem clearOutbox_writing (s : State) : (clearOutbox s).writing = s.writing := rfl
@[simp] theorem clearOutbox_written (s : State) : (clearOutbox s).written = s.written := rfl
@[simp] theorem clearOutbox_address (s : State) : (clearOutbox s).address = s.address := rfl
@[simp] theorem clearOutbox_record (s : State) : (clearOutbox s).record = s.record := rfl
@[simp] theorem clearOutbox_cause (s : State) : (clearOutbox s).cause = s.cause := rfl
@[simp] theorem clearOutbox_mode (s : State) : (clearOutbox s).mode = s.mode := rfl
@[simp] theorem clearOutbox_faultCause (s : State) : (clearOutbox s).faultCause = s.faultCause := rfl
@[simp] theorem clearOutbox_voidRun (s : State) : (clearOutbox s).voidRun = s.voidRun := rfl
@[simp] theorem clearOutbox_replicas (s : State) : (clearOutbox s).replicas = s.replicas := rfl
@[simp] theorem clearOutbox_holding (s : State) : (clearOutbox s).holding = s.holding := rfl
@[simp] theorem clearOutbox_ownAge (s : State) : (clearOutbox s).ownAge = s.ownAge := rfl
@[simp] theorem clearOutbox_requested (s : State) : (clearOutbox s).requested = s.requested := rfl
@[simp] theorem clearOutbox_target (s : State) : (clearOutbox s).target = s.target := rfl
@[simp] theorem clearOutbox_suppression (s : State) : (clearOutbox s).suppression = s.suppression := rfl
@[simp] theorem clearOutbox_outbox (s : State) : (clearOutbox s).outbox = s.outbox.clear := rfl
@[simp] theorem clearOutbox_censusRetry (s : State) : (clearOutbox s).censusRetry = none := rfl
@[simp] theorem clearOutbox_opening (s : State) : (clearOutbox s).opening = s.opening := rfl
@[simp] theorem clearOutbox_frame (s : State) : (clearOutbox s).frame = s.frame := rfl
@[simp] theorem clearOutbox_synchronised (s : State) : (clearOutbox s).synchronised = s.synchronised := rfl
@[simp] theorem clearOutbox_joinCondition (s : State) : (clearOutbox s).joinCondition = s.joinCondition := rfl
@[simp] theorem clearOutbox_highTime (s : State) : (clearOutbox s).highTime = s.highTime := rfl
@[simp] theorem clearOutbox_lineLow (s : State) : (clearOutbox s).lineLow = s.lineLow := rfl
@[simp] theorem clearOutbox_wakeArmed (s : State) : (clearOutbox s).wakeArmed = s.wakeArmed := rfl
@[simp] theorem clearOutbox_renewTimer (s : State) : (clearOutbox s).renewTimer = s.renewTimer := rfl
@[simp] theorem clearOutbox_windowCap (s : State) : (clearOutbox s).windowCap = s.windowCap := rfl
@[simp] theorem clearOutbox_muteWait (s : State) : (clearOutbox s).muteWait = s.muteWait := rfl
@[simp] theorem clearOutbox_level (s : State) : (clearOutbox s).level = s.level := rfl
@[simp] theorem clearOutbox_rampTarget (s : State) : (clearOutbox s).rampTarget = s.rampTarget := rfl
@[simp] theorem clearOutbox_settle (s : State) : (clearOutbox s).settle = s.settle := rfl
@[simp] theorem clearOutbox_overdrawRun (s : State) : (clearOutbox s).overdrawRun = s.overdrawRun := rfl
@[simp] theorem clearOutbox_underRun (s : State) : (clearOutbox s).underRun = s.underRun := rfl
@[simp] theorem clearOutbox_under (s : State) : (clearOutbox s).under = s.under := rfl
@[simp] theorem clearOutbox_supplyLow (s : State) : (clearOutbox s).supplyLow = s.supplyLow := rfl
@[simp] theorem clearOutbox_droopHold (s : State) : (clearOutbox s).droopHold = s.droopHold := rfl
@[simp] theorem clearOutbox_recovery (s : State) : (clearOutbox s).recovery = s.recovery := rfl
@[simp] theorem clearOutbox_latch (s : State) : (clearOutbox s).latch = s.latch := rfl
@[simp] theorem clearOutbox_mask (s : State) : (clearOutbox s).mask = s.mask := rfl
@[simp] theorem clearOutbox_straddling (s : State) : (clearOutbox s).straddling = s.straddling := rfl
@[simp] theorem clearOutbox_reply (s : State) : (clearOutbox s).reply = s.reply := rfl
@[simp] theorem clearOutbox_fresh (s : State) : (clearOutbox s).fresh = s.fresh := rfl
@[simp] theorem clearOutbox_pending (s : State) : (clearOutbox s).pending = s.pending := rfl

/-! ### `liftSuppression` -/

@[simp] theorem liftSuppression_resetHeld (s : State) : (liftSuppression s).resetHeld = s.resetHeld := rfl
@[simp] theorem liftSuppression_oneTime (s : State) : (liftSuppression s).oneTime = s.oneTime := rfl
@[simp] theorem liftSuppression_writing (s : State) : (liftSuppression s).writing = s.writing := rfl
@[simp] theorem liftSuppression_written (s : State) : (liftSuppression s).written = s.written := rfl
@[simp] theorem liftSuppression_address (s : State) : (liftSuppression s).address = s.address := rfl
@[simp] theorem liftSuppression_record (s : State) : (liftSuppression s).record = s.record := rfl
@[simp] theorem liftSuppression_cause (s : State) : (liftSuppression s).cause = s.cause := rfl
@[simp] theorem liftSuppression_mode (s : State) : (liftSuppression s).mode = s.mode := rfl
@[simp] theorem liftSuppression_faultCause (s : State) : (liftSuppression s).faultCause = s.faultCause := rfl
@[simp] theorem liftSuppression_voidRun (s : State) : (liftSuppression s).voidRun = s.voidRun := rfl
@[simp] theorem liftSuppression_replicas (s : State) : (liftSuppression s).replicas = s.replicas := rfl
@[simp] theorem liftSuppression_holding (s : State) : (liftSuppression s).holding = s.holding := rfl
@[simp] theorem liftSuppression_ownAge (s : State) : (liftSuppression s).ownAge = s.ownAge := rfl
@[simp] theorem liftSuppression_requested (s : State) : (liftSuppression s).requested = s.requested := rfl
@[simp] theorem liftSuppression_target (s : State) : (liftSuppression s).target = s.target := rfl
@[simp] theorem liftSuppression_suppression (s : State) : (liftSuppression s).suppression = none := rfl
@[simp] theorem liftSuppression_outbox (s : State) : (liftSuppression s).outbox = s.outbox := rfl
@[simp] theorem liftSuppression_censusRetry (s : State) : (liftSuppression s).censusRetry = s.censusRetry := rfl
@[simp] theorem liftSuppression_opening (s : State) : (liftSuppression s).opening = s.opening := rfl
@[simp] theorem liftSuppression_frame (s : State) : (liftSuppression s).frame = s.frame := rfl
@[simp] theorem liftSuppression_synchronised (s : State) : (liftSuppression s).synchronised = s.synchronised := rfl
@[simp] theorem liftSuppression_joinCondition (s : State) : (liftSuppression s).joinCondition = s.joinCondition := rfl
@[simp] theorem liftSuppression_highTime (s : State) : (liftSuppression s).highTime = s.highTime := rfl
@[simp] theorem liftSuppression_lineLow (s : State) : (liftSuppression s).lineLow = s.lineLow := rfl
@[simp] theorem liftSuppression_wakeArmed (s : State) : (liftSuppression s).wakeArmed = s.wakeArmed := rfl
@[simp] theorem liftSuppression_renewTimer (s : State) : (liftSuppression s).renewTimer = s.renewTimer := rfl
@[simp] theorem liftSuppression_windowCap (s : State) : (liftSuppression s).windowCap = s.windowCap := rfl
@[simp] theorem liftSuppression_muteWait (s : State) : (liftSuppression s).muteWait = s.muteWait := rfl
@[simp] theorem liftSuppression_level (s : State) : (liftSuppression s).level = s.level := rfl
@[simp] theorem liftSuppression_rampTarget (s : State) : (liftSuppression s).rampTarget = s.rampTarget := rfl
@[simp] theorem liftSuppression_settle (s : State) : (liftSuppression s).settle = s.settle := rfl
@[simp] theorem liftSuppression_overdrawRun (s : State) : (liftSuppression s).overdrawRun = s.overdrawRun := rfl
@[simp] theorem liftSuppression_underRun (s : State) : (liftSuppression s).underRun = s.underRun := rfl
@[simp] theorem liftSuppression_under (s : State) : (liftSuppression s).under = s.under := rfl
@[simp] theorem liftSuppression_supplyLow (s : State) : (liftSuppression s).supplyLow = s.supplyLow := rfl
@[simp] theorem liftSuppression_droopHold (s : State) : (liftSuppression s).droopHold = s.droopHold := rfl
@[simp] theorem liftSuppression_recovery (s : State) : (liftSuppression s).recovery = s.recovery := rfl
@[simp] theorem liftSuppression_latch (s : State) : (liftSuppression s).latch = s.latch := rfl
@[simp] theorem liftSuppression_mask (s : State) : (liftSuppression s).mask = s.mask := rfl
@[simp] theorem liftSuppression_straddling (s : State) : (liftSuppression s).straddling = s.straddling := rfl
@[simp] theorem liftSuppression_reply (s : State) : (liftSuppression s).reply = s.reply := rfl
@[simp] theorem liftSuppression_fresh (s : State) : (liftSuppression s).fresh = s.fresh := rfl
@[simp] theorem liftSuppression_pending (s : State) : (liftSuppression s).pending = s.pending := rfl

/-! ### `refreshTarget` -/

@[simp] theorem refreshTarget_resetHeld (s : State) : (refreshTarget s).resetHeld = s.resetHeld := rfl
@[simp] theorem refreshTarget_oneTime (s : State) : (refreshTarget s).oneTime = s.oneTime := rfl
@[simp] theorem refreshTarget_writing (s : State) : (refreshTarget s).writing = s.writing := rfl
@[simp] theorem refreshTarget_written (s : State) : (refreshTarget s).written = s.written := rfl
@[simp] theorem refreshTarget_address (s : State) : (refreshTarget s).address = s.address := rfl
@[simp] theorem refreshTarget_record (s : State) : (refreshTarget s).record = s.record := rfl
@[simp] theorem refreshTarget_cause (s : State) : (refreshTarget s).cause = s.cause := rfl
@[simp] theorem refreshTarget_mode (s : State) : (refreshTarget s).mode = s.mode := rfl
@[simp] theorem refreshTarget_faultCause (s : State) : (refreshTarget s).faultCause = s.faultCause := rfl
@[simp] theorem refreshTarget_voidRun (s : State) : (refreshTarget s).voidRun = s.voidRun := rfl
@[simp] theorem refreshTarget_replicas (s : State) : (refreshTarget s).replicas = s.replicas := rfl
@[simp] theorem refreshTarget_holding (s : State) : (refreshTarget s).holding = s.holding := rfl
@[simp] theorem refreshTarget_ownAge (s : State) : (refreshTarget s).ownAge = s.ownAge := rfl
@[simp] theorem refreshTarget_requested (s : State) : (refreshTarget s).requested = s.requested := rfl
@[simp] theorem refreshTarget_target (s : State) : (refreshTarget s).target = s.fairTarget := rfl
@[simp] theorem refreshTarget_suppression (s : State) : (refreshTarget s).suppression = s.suppression := rfl
@[simp] theorem refreshTarget_outbox (s : State) : (refreshTarget s).outbox = s.outbox := rfl
@[simp] theorem refreshTarget_censusRetry (s : State) : (refreshTarget s).censusRetry = s.censusRetry := rfl
@[simp] theorem refreshTarget_opening (s : State) : (refreshTarget s).opening = s.opening := rfl
@[simp] theorem refreshTarget_frame (s : State) : (refreshTarget s).frame = s.frame := rfl
@[simp] theorem refreshTarget_synchronised (s : State) : (refreshTarget s).synchronised = s.synchronised := rfl
@[simp] theorem refreshTarget_joinCondition (s : State) : (refreshTarget s).joinCondition = s.joinCondition := rfl
@[simp] theorem refreshTarget_highTime (s : State) : (refreshTarget s).highTime = s.highTime := rfl
@[simp] theorem refreshTarget_lineLow (s : State) : (refreshTarget s).lineLow = s.lineLow := rfl
@[simp] theorem refreshTarget_wakeArmed (s : State) : (refreshTarget s).wakeArmed = s.wakeArmed := rfl
@[simp] theorem refreshTarget_renewTimer (s : State) : (refreshTarget s).renewTimer = s.renewTimer := rfl
@[simp] theorem refreshTarget_windowCap (s : State) : (refreshTarget s).windowCap = s.windowCap := rfl
@[simp] theorem refreshTarget_muteWait (s : State) : (refreshTarget s).muteWait = s.muteWait := rfl
@[simp] theorem refreshTarget_level (s : State) : (refreshTarget s).level = s.level := rfl
@[simp] theorem refreshTarget_rampTarget (s : State) : (refreshTarget s).rampTarget = s.rampTarget := rfl
@[simp] theorem refreshTarget_settle (s : State) : (refreshTarget s).settle = s.settle := rfl
@[simp] theorem refreshTarget_overdrawRun (s : State) : (refreshTarget s).overdrawRun = s.overdrawRun := rfl
@[simp] theorem refreshTarget_underRun (s : State) : (refreshTarget s).underRun = s.underRun := rfl
@[simp] theorem refreshTarget_under (s : State) : (refreshTarget s).under = s.under := rfl
@[simp] theorem refreshTarget_supplyLow (s : State) : (refreshTarget s).supplyLow = s.supplyLow := rfl
@[simp] theorem refreshTarget_droopHold (s : State) : (refreshTarget s).droopHold = s.droopHold := rfl
@[simp] theorem refreshTarget_recovery (s : State) : (refreshTarget s).recovery = s.recovery := rfl
@[simp] theorem refreshTarget_latch (s : State) : (refreshTarget s).latch = s.latch := rfl
@[simp] theorem refreshTarget_mask (s : State) : (refreshTarget s).mask = s.mask := rfl
@[simp] theorem refreshTarget_straddling (s : State) : (refreshTarget s).straddling = s.straddling := rfl
@[simp] theorem refreshTarget_reply (s : State) : (refreshTarget s).reply = s.reply := rfl
@[simp] theorem refreshTarget_fresh (s : State) : (refreshTarget s).fresh = s.fresh := rfl
@[simp] theorem refreshTarget_pending (s : State) : (refreshTarget s).pending = s.pending := rfl

/-! ### `demoteReceiver` -/

@[simp] theorem demoteReceiver_resetHeld (s : State) : (demoteReceiver s).resetHeld = s.resetHeld := rfl
@[simp] theorem demoteReceiver_oneTime (s : State) : (demoteReceiver s).oneTime = s.oneTime := rfl
@[simp] theorem demoteReceiver_writing (s : State) : (demoteReceiver s).writing = s.writing := rfl
@[simp] theorem demoteReceiver_written (s : State) : (demoteReceiver s).written = s.written := rfl
@[simp] theorem demoteReceiver_address (s : State) : (demoteReceiver s).address = s.address := rfl
@[simp] theorem demoteReceiver_record (s : State) : (demoteReceiver s).record = s.record := rfl
@[simp] theorem demoteReceiver_cause (s : State) : (demoteReceiver s).cause = s.cause := rfl
@[simp] theorem demoteReceiver_mode (s : State) : (demoteReceiver s).mode = s.mode := rfl
@[simp] theorem demoteReceiver_faultCause (s : State) : (demoteReceiver s).faultCause = s.faultCause := rfl
@[simp] theorem demoteReceiver_voidRun (s : State) : (demoteReceiver s).voidRun = s.voidRun := rfl
@[simp] theorem demoteReceiver_replicas (s : State) : (demoteReceiver s).replicas = s.replicas := rfl
@[simp] theorem demoteReceiver_holding (s : State) : (demoteReceiver s).holding = s.holding := rfl
@[simp] theorem demoteReceiver_ownAge (s : State) : (demoteReceiver s).ownAge = s.ownAge := rfl
@[simp] theorem demoteReceiver_requested (s : State) : (demoteReceiver s).requested = s.requested := rfl
@[simp] theorem demoteReceiver_target (s : State) : (demoteReceiver s).target = s.target := rfl
@[simp] theorem demoteReceiver_suppression (s : State) : (demoteReceiver s).suppression = s.suppression := rfl
@[simp] theorem demoteReceiver_outbox (s : State) : (demoteReceiver s).outbox = s.outbox := rfl
@[simp] theorem demoteReceiver_censusRetry (s : State) : (demoteReceiver s).censusRetry = s.censusRetry := rfl
@[simp] theorem demoteReceiver_opening (s : State) : (demoteReceiver s).opening = s.opening.map fun o => { o with role := o.role.demote } := rfl
@[simp] theorem demoteReceiver_frame (s : State) : (demoteReceiver s).frame = s.frame.map fun r => { r with role := r.role.demote } := rfl
@[simp] theorem demoteReceiver_synchronised (s : State) : (demoteReceiver s).synchronised = s.synchronised := rfl
@[simp] theorem demoteReceiver_joinCondition (s : State) : (demoteReceiver s).joinCondition = s.joinCondition := rfl
@[simp] theorem demoteReceiver_highTime (s : State) : (demoteReceiver s).highTime = s.highTime := rfl
@[simp] theorem demoteReceiver_lineLow (s : State) : (demoteReceiver s).lineLow = s.lineLow.map LineLow.demote := rfl
@[simp] theorem demoteReceiver_wakeArmed (s : State) : (demoteReceiver s).wakeArmed = s.wakeArmed := rfl
@[simp] theorem demoteReceiver_renewTimer (s : State) : (demoteReceiver s).renewTimer = s.renewTimer := rfl
@[simp] theorem demoteReceiver_windowCap (s : State) : (demoteReceiver s).windowCap = s.windowCap := rfl
@[simp] theorem demoteReceiver_muteWait (s : State) : (demoteReceiver s).muteWait = s.muteWait := rfl
@[simp] theorem demoteReceiver_level (s : State) : (demoteReceiver s).level = s.level := rfl
@[simp] theorem demoteReceiver_rampTarget (s : State) : (demoteReceiver s).rampTarget = s.rampTarget := rfl
@[simp] theorem demoteReceiver_settle (s : State) : (demoteReceiver s).settle = s.settle := rfl
@[simp] theorem demoteReceiver_overdrawRun (s : State) : (demoteReceiver s).overdrawRun = s.overdrawRun := rfl
@[simp] theorem demoteReceiver_underRun (s : State) : (demoteReceiver s).underRun = s.underRun := rfl
@[simp] theorem demoteReceiver_under (s : State) : (demoteReceiver s).under = s.under := rfl
@[simp] theorem demoteReceiver_supplyLow (s : State) : (demoteReceiver s).supplyLow = s.supplyLow := rfl
@[simp] theorem demoteReceiver_droopHold (s : State) : (demoteReceiver s).droopHold = s.droopHold := rfl
@[simp] theorem demoteReceiver_recovery (s : State) : (demoteReceiver s).recovery = s.recovery := rfl
@[simp] theorem demoteReceiver_latch (s : State) : (demoteReceiver s).latch = s.latch := rfl
@[simp] theorem demoteReceiver_mask (s : State) : (demoteReceiver s).mask = s.mask := rfl
@[simp] theorem demoteReceiver_straddling (s : State) : (demoteReceiver s).straddling = s.straddling := rfl
@[simp] theorem demoteReceiver_reply (s : State) : (demoteReceiver s).reply = s.reply := rfl
@[simp] theorem demoteReceiver_fresh (s : State) : (demoteReceiver s).fresh = s.fresh := rfl
@[simp] theorem demoteReceiver_pending (s : State) : (demoteReceiver s).pending = s.pending := rfl

/-! ### `answer` -/

@[simp] theorem answer_resetHeld (st : PortStatus) (data : List Byte) (s : State) : (answer st data s).resetHeld = s.resetHeld := rfl
@[simp] theorem answer_oneTime (st : PortStatus) (data : List Byte) (s : State) : (answer st data s).oneTime = s.oneTime := rfl
@[simp] theorem answer_writing (st : PortStatus) (data : List Byte) (s : State) : (answer st data s).writing = s.writing := rfl
@[simp] theorem answer_written (st : PortStatus) (data : List Byte) (s : State) : (answer st data s).written = s.written := rfl
@[simp] theorem answer_address (st : PortStatus) (data : List Byte) (s : State) : (answer st data s).address = s.address := rfl
@[simp] theorem answer_record (st : PortStatus) (data : List Byte) (s : State) : (answer st data s).record = s.record := rfl
@[simp] theorem answer_cause (st : PortStatus) (data : List Byte) (s : State) : (answer st data s).cause = s.cause := rfl
@[simp] theorem answer_mode (st : PortStatus) (data : List Byte) (s : State) : (answer st data s).mode = s.mode := rfl
@[simp] theorem answer_faultCause (st : PortStatus) (data : List Byte) (s : State) : (answer st data s).faultCause = s.faultCause := rfl
@[simp] theorem answer_voidRun (st : PortStatus) (data : List Byte) (s : State) : (answer st data s).voidRun = s.voidRun := rfl
@[simp] theorem answer_replicas (st : PortStatus) (data : List Byte) (s : State) : (answer st data s).replicas = s.replicas := rfl
@[simp] theorem answer_holding (st : PortStatus) (data : List Byte) (s : State) : (answer st data s).holding = s.holding := rfl
@[simp] theorem answer_ownAge (st : PortStatus) (data : List Byte) (s : State) : (answer st data s).ownAge = s.ownAge := rfl
@[simp] theorem answer_requested (st : PortStatus) (data : List Byte) (s : State) : (answer st data s).requested = s.requested := rfl
@[simp] theorem answer_target (st : PortStatus) (data : List Byte) (s : State) : (answer st data s).target = s.target := rfl
@[simp] theorem answer_suppression (st : PortStatus) (data : List Byte) (s : State) : (answer st data s).suppression = s.suppression := rfl
@[simp] theorem answer_outbox (st : PortStatus) (data : List Byte) (s : State) : (answer st data s).outbox = s.outbox := rfl
@[simp] theorem answer_censusRetry (st : PortStatus) (data : List Byte) (s : State) : (answer st data s).censusRetry = s.censusRetry := rfl
@[simp] theorem answer_opening (st : PortStatus) (data : List Byte) (s : State) : (answer st data s).opening = s.opening := rfl
@[simp] theorem answer_frame (st : PortStatus) (data : List Byte) (s : State) : (answer st data s).frame = s.frame := rfl
@[simp] theorem answer_synchronised (st : PortStatus) (data : List Byte) (s : State) : (answer st data s).synchronised = s.synchronised := rfl
@[simp] theorem answer_joinCondition (st : PortStatus) (data : List Byte) (s : State) : (answer st data s).joinCondition = s.joinCondition := rfl
@[simp] theorem answer_highTime (st : PortStatus) (data : List Byte) (s : State) : (answer st data s).highTime = s.highTime := rfl
@[simp] theorem answer_lineLow (st : PortStatus) (data : List Byte) (s : State) : (answer st data s).lineLow = s.lineLow := rfl
@[simp] theorem answer_wakeArmed (st : PortStatus) (data : List Byte) (s : State) : (answer st data s).wakeArmed = s.wakeArmed := rfl
@[simp] theorem answer_renewTimer (st : PortStatus) (data : List Byte) (s : State) : (answer st data s).renewTimer = s.renewTimer := rfl
@[simp] theorem answer_windowCap (st : PortStatus) (data : List Byte) (s : State) : (answer st data s).windowCap = s.windowCap := rfl
@[simp] theorem answer_muteWait (st : PortStatus) (data : List Byte) (s : State) : (answer st data s).muteWait = s.muteWait := rfl
@[simp] theorem answer_level (st : PortStatus) (data : List Byte) (s : State) : (answer st data s).level = s.level := rfl
@[simp] theorem answer_rampTarget (st : PortStatus) (data : List Byte) (s : State) : (answer st data s).rampTarget = s.rampTarget := rfl
@[simp] theorem answer_settle (st : PortStatus) (data : List Byte) (s : State) : (answer st data s).settle = s.settle := rfl
@[simp] theorem answer_overdrawRun (st : PortStatus) (data : List Byte) (s : State) : (answer st data s).overdrawRun = s.overdrawRun := rfl
@[simp] theorem answer_underRun (st : PortStatus) (data : List Byte) (s : State) : (answer st data s).underRun = s.underRun := rfl
@[simp] theorem answer_under (st : PortStatus) (data : List Byte) (s : State) : (answer st data s).under = s.under := rfl
@[simp] theorem answer_supplyLow (st : PortStatus) (data : List Byte) (s : State) : (answer st data s).supplyLow = s.supplyLow := rfl
@[simp] theorem answer_droopHold (st : PortStatus) (data : List Byte) (s : State) : (answer st data s).droopHold = s.droopHold := rfl
@[simp] theorem answer_recovery (st : PortStatus) (data : List Byte) (s : State) : (answer st data s).recovery = s.recovery := rfl
@[simp] theorem answer_latch (st : PortStatus) (data : List Byte) (s : State) : (answer st data s).latch = s.latch := rfl
@[simp] theorem answer_mask (st : PortStatus) (data : List Byte) (s : State) : (answer st data s).mask = s.mask := rfl
@[simp] theorem answer_straddling (st : PortStatus) (data : List Byte) (s : State) : (answer st data s).straddling = s.straddling := rfl
@[simp] theorem answer_reply (st : PortStatus) (data : List Byte) (s : State) : (answer st data s).reply = st.byte :: data := rfl
@[simp] theorem answer_fresh (st : PortStatus) (data : List Byte) (s : State) : (answer st data s).fresh = s.fresh := rfl
@[simp] theorem answer_pending (st : PortStatus) (data : List Byte) (s : State) : (answer st data s).pending = s.pending := rfl

/-! ### `followBreak` -/

@[simp] theorem followBreak_resetHeld (s : State) : (followBreak s).resetHeld = s.resetHeld := rfl
@[simp] theorem followBreak_oneTime (s : State) : (followBreak s).oneTime = s.oneTime := rfl
@[simp] theorem followBreak_writing (s : State) : (followBreak s).writing = s.writing := rfl
@[simp] theorem followBreak_written (s : State) : (followBreak s).written = s.written := rfl
@[simp] theorem followBreak_address (s : State) : (followBreak s).address = s.address := rfl
@[simp] theorem followBreak_record (s : State) : (followBreak s).record = s.record := rfl
@[simp] theorem followBreak_cause (s : State) : (followBreak s).cause = s.cause := rfl
@[simp] theorem followBreak_mode (s : State) : (followBreak s).mode = s.mode := rfl
@[simp] theorem followBreak_faultCause (s : State) : (followBreak s).faultCause = s.faultCause := rfl
@[simp] theorem followBreak_voidRun (s : State) : (followBreak s).voidRun = s.voidRun := rfl
@[simp] theorem followBreak_replicas (s : State) : (followBreak s).replicas = s.replicas := rfl
@[simp] theorem followBreak_holding (s : State) : (followBreak s).holding = s.holding := rfl
@[simp] theorem followBreak_ownAge (s : State) : (followBreak s).ownAge = s.ownAge := rfl
@[simp] theorem followBreak_requested (s : State) : (followBreak s).requested = s.requested := rfl
@[simp] theorem followBreak_target (s : State) : (followBreak s).target = s.target := rfl
@[simp] theorem followBreak_suppression (s : State) : (followBreak s).suppression = s.suppression := rfl
@[simp] theorem followBreak_outbox (s : State) : (followBreak s).outbox = s.outbox := rfl
@[simp] theorem followBreak_censusRetry (s : State) : (followBreak s).censusRetry = s.censusRetry := rfl
@[simp] theorem followBreak_opening (s : State) : (followBreak s).opening = some { role := s.roleAtBreak, sent := none, ownTime := 0 } := rfl
@[simp] theorem followBreak_frame (s : State) : (followBreak s).frame = none := rfl
@[simp] theorem followBreak_synchronised (s : State) : (followBreak s).synchronised = s.synchronised := rfl
@[simp] theorem followBreak_joinCondition (s : State) : (followBreak s).joinCondition = s.joinCondition := rfl
@[simp] theorem followBreak_highTime (s : State) : (followBreak s).highTime = 0 := rfl
@[simp] theorem followBreak_lineLow (s : State) : (followBreak s).lineLow = some (.seen s.sawEdgeListening) := rfl
@[simp] theorem followBreak_wakeArmed (s : State) : (followBreak s).wakeArmed = s.wakeArmed := rfl
@[simp] theorem followBreak_renewTimer (s : State) : (followBreak s).renewTimer = s.renewTimer := rfl
@[simp] theorem followBreak_windowCap (s : State) : (followBreak s).windowCap = s.windowCap := rfl
@[simp] theorem followBreak_muteWait (s : State) : (followBreak s).muteWait = s.muteWait := rfl
@[simp] theorem followBreak_level (s : State) : (followBreak s).level = s.level := rfl
@[simp] theorem followBreak_rampTarget (s : State) : (followBreak s).rampTarget = s.rampTarget := rfl
@[simp] theorem followBreak_settle (s : State) : (followBreak s).settle = s.settle := rfl
@[simp] theorem followBreak_overdrawRun (s : State) : (followBreak s).overdrawRun = s.overdrawRun := rfl
@[simp] theorem followBreak_underRun (s : State) : (followBreak s).underRun = s.underRun := rfl
@[simp] theorem followBreak_under (s : State) : (followBreak s).under = s.under := rfl
@[simp] theorem followBreak_supplyLow (s : State) : (followBreak s).supplyLow = s.supplyLow := rfl
@[simp] theorem followBreak_droopHold (s : State) : (followBreak s).droopHold = s.droopHold := rfl
@[simp] theorem followBreak_recovery (s : State) : (followBreak s).recovery = s.recovery := rfl
@[simp] theorem followBreak_latch (s : State) : (followBreak s).latch = s.latch := rfl
@[simp] theorem followBreak_mask (s : State) : (followBreak s).mask = s.mask := rfl
@[simp] theorem followBreak_straddling (s : State) : (followBreak s).straddling = s.straddling := rfl
@[simp] theorem followBreak_reply (s : State) : (followBreak s).reply = s.reply := rfl
@[simp] theorem followBreak_fresh (s : State) : (followBreak s).fresh = s.fresh := rfl
@[simp] theorem followBreak_pending (s : State) : (followBreak s).pending = s.pending := rfl

/-! ### `beginBreak` -/

@[simp] theorem beginBreak_resetHeld (k : Kind) (s : State) : (beginBreak k s).resetHeld = s.resetHeld := rfl
@[simp] theorem beginBreak_oneTime (k : Kind) (s : State) : (beginBreak k s).oneTime = s.oneTime := rfl
@[simp] theorem beginBreak_writing (k : Kind) (s : State) : (beginBreak k s).writing = s.writing := rfl
@[simp] theorem beginBreak_written (k : Kind) (s : State) : (beginBreak k s).written = s.written := rfl
@[simp] theorem beginBreak_address (k : Kind) (s : State) : (beginBreak k s).address = s.address := rfl
@[simp] theorem beginBreak_record (k : Kind) (s : State) : (beginBreak k s).record = s.record := rfl
@[simp] theorem beginBreak_cause (k : Kind) (s : State) : (beginBreak k s).cause = s.cause := rfl
@[simp] theorem beginBreak_mode (k : Kind) (s : State) : (beginBreak k s).mode = s.mode := rfl
@[simp] theorem beginBreak_faultCause (k : Kind) (s : State) : (beginBreak k s).faultCause = s.faultCause := rfl
@[simp] theorem beginBreak_voidRun (k : Kind) (s : State) : (beginBreak k s).voidRun = s.voidRun := rfl
@[simp] theorem beginBreak_replicas (k : Kind) (s : State) : (beginBreak k s).replicas = s.replicas := rfl
@[simp] theorem beginBreak_holding (k : Kind) (s : State) : (beginBreak k s).holding = s.holding := rfl
@[simp] theorem beginBreak_ownAge (k : Kind) (s : State) : (beginBreak k s).ownAge = s.ownAge := rfl
@[simp] theorem beginBreak_requested (k : Kind) (s : State) : (beginBreak k s).requested = s.requested := rfl
@[simp] theorem beginBreak_target (k : Kind) (s : State) : (beginBreak k s).target = s.target := rfl
@[simp] theorem beginBreak_suppression (k : Kind) (s : State) : (beginBreak k s).suppression = s.suppression := rfl
@[simp] theorem beginBreak_outbox (k : Kind) (s : State) : (beginBreak k s).outbox = s.outbox.launch k := rfl
@[simp] theorem beginBreak_censusRetry (k : Kind) (s : State) : (beginBreak k s).censusRetry = s.censusRetry := rfl
@[simp] theorem beginBreak_opening (k : Kind) (s : State) : (beginBreak k s).opening = some { role := .sender, sent := some (sealFrame (s.ownFields k)), ownTime := 0 } := rfl
@[simp] theorem beginBreak_frame (k : Kind) (s : State) : (beginBreak k s).frame = none := rfl
@[simp] theorem beginBreak_synchronised (k : Kind) (s : State) : (beginBreak k s).synchronised = s.synchronised := rfl
@[simp] theorem beginBreak_joinCondition (k : Kind) (s : State) : (beginBreak k s).joinCondition = s.joinCondition := rfl
@[simp] theorem beginBreak_highTime (k : Kind) (s : State) : (beginBreak k s).highTime = 0 := rfl
@[simp] theorem beginBreak_lineLow (k : Kind) (s : State) : (beginBreak k s).lineLow = some (.seen s.mode.listening) := rfl
@[simp] theorem beginBreak_wakeArmed (k : Kind) (s : State) : (beginBreak k s).wakeArmed = s.wakeArmed := rfl
@[simp] theorem beginBreak_renewTimer (k : Kind) (s : State) : (beginBreak k s).renewTimer = s.renewTimer := rfl
@[simp] theorem beginBreak_windowCap (k : Kind) (s : State) : (beginBreak k s).windowCap = s.windowCap := rfl
@[simp] theorem beginBreak_muteWait (k : Kind) (s : State) : (beginBreak k s).muteWait = s.muteWait := rfl
@[simp] theorem beginBreak_level (k : Kind) (s : State) : (beginBreak k s).level = s.level := rfl
@[simp] theorem beginBreak_rampTarget (k : Kind) (s : State) : (beginBreak k s).rampTarget = s.rampTarget := rfl
@[simp] theorem beginBreak_settle (k : Kind) (s : State) : (beginBreak k s).settle = s.settle := rfl
@[simp] theorem beginBreak_overdrawRun (k : Kind) (s : State) : (beginBreak k s).overdrawRun = s.overdrawRun := rfl
@[simp] theorem beginBreak_underRun (k : Kind) (s : State) : (beginBreak k s).underRun = s.underRun := rfl
@[simp] theorem beginBreak_under (k : Kind) (s : State) : (beginBreak k s).under = s.under := rfl
@[simp] theorem beginBreak_supplyLow (k : Kind) (s : State) : (beginBreak k s).supplyLow = s.supplyLow := rfl
@[simp] theorem beginBreak_droopHold (k : Kind) (s : State) : (beginBreak k s).droopHold = s.droopHold := rfl
@[simp] theorem beginBreak_recovery (k : Kind) (s : State) : (beginBreak k s).recovery = s.recovery := rfl
@[simp] theorem beginBreak_latch (k : Kind) (s : State) : (beginBreak k s).latch = s.latch := rfl
@[simp] theorem beginBreak_mask (k : Kind) (s : State) : (beginBreak k s).mask = s.mask := rfl
@[simp] theorem beginBreak_straddling (k : Kind) (s : State) : (beginBreak k s).straddling = s.straddling := rfl
@[simp] theorem beginBreak_reply (k : Kind) (s : State) : (beginBreak k s).reply = s.reply := rfl
@[simp] theorem beginBreak_fresh (k : Kind) (s : State) : (beginBreak k s).fresh = s.fresh := rfl
@[simp] theorem beginBreak_pending (k : Kind) (s : State) : (beginBreak k s).pending = s.pending := rfl

/-! ### `frameReaches` -/

@[simp] theorem frameReaches_resetHeld (r : FrameRecord) (now : Nat) (lows : List Low) (s : State) : (frameReaches r now lows s).resetHeld = s.resetHeld := rfl
@[simp] theorem frameReaches_oneTime (r : FrameRecord) (now : Nat) (lows : List Low) (s : State) : (frameReaches r now lows s).oneTime = s.oneTime := rfl
@[simp] theorem frameReaches_writing (r : FrameRecord) (now : Nat) (lows : List Low) (s : State) : (frameReaches r now lows s).writing = s.writing := rfl
@[simp] theorem frameReaches_written (r : FrameRecord) (now : Nat) (lows : List Low) (s : State) : (frameReaches r now lows s).written = s.written := rfl
@[simp] theorem frameReaches_address (r : FrameRecord) (now : Nat) (lows : List Low) (s : State) : (frameReaches r now lows s).address = s.address := rfl
@[simp] theorem frameReaches_record (r : FrameRecord) (now : Nat) (lows : List Low) (s : State) : (frameReaches r now lows s).record = s.record := rfl
@[simp] theorem frameReaches_cause (r : FrameRecord) (now : Nat) (lows : List Low) (s : State) : (frameReaches r now lows s).cause = s.cause := rfl
@[simp] theorem frameReaches_mode (r : FrameRecord) (now : Nat) (lows : List Low) (s : State) : (frameReaches r now lows s).mode = s.mode := rfl
@[simp] theorem frameReaches_faultCause (r : FrameRecord) (now : Nat) (lows : List Low) (s : State) : (frameReaches r now lows s).faultCause = s.faultCause := rfl
@[simp] theorem frameReaches_voidRun (r : FrameRecord) (now : Nat) (lows : List Low) (s : State) : (frameReaches r now lows s).voidRun = s.voidRun := rfl
@[simp] theorem frameReaches_replicas (r : FrameRecord) (now : Nat) (lows : List Low) (s : State) : (frameReaches r now lows s).replicas = s.replicas := rfl
@[simp] theorem frameReaches_holding (r : FrameRecord) (now : Nat) (lows : List Low) (s : State) : (frameReaches r now lows s).holding = s.holding := rfl
@[simp] theorem frameReaches_ownAge (r : FrameRecord) (now : Nat) (lows : List Low) (s : State) : (frameReaches r now lows s).ownAge = s.ownAge := rfl
@[simp] theorem frameReaches_requested (r : FrameRecord) (now : Nat) (lows : List Low) (s : State) : (frameReaches r now lows s).requested = s.requested := rfl
@[simp] theorem frameReaches_target (r : FrameRecord) (now : Nat) (lows : List Low) (s : State) : (frameReaches r now lows s).target = s.target := rfl
@[simp] theorem frameReaches_suppression (r : FrameRecord) (now : Nat) (lows : List Low) (s : State) : (frameReaches r now lows s).suppression = s.suppression := rfl
@[simp] theorem frameReaches_outbox (r : FrameRecord) (now : Nat) (lows : List Low) (s : State) : (frameReaches r now lows s).outbox = s.outbox := rfl
@[simp] theorem frameReaches_censusRetry (r : FrameRecord) (now : Nat) (lows : List Low) (s : State) : (frameReaches r now lows s).censusRetry = s.censusRetry := rfl
@[simp] theorem frameReaches_opening (r : FrameRecord) (now : Nat) (lows : List Low) (s : State) : (frameReaches r now lows s).opening = none := rfl
@[simp] theorem frameReaches_frame (r : FrameRecord) (now : Nat) (lows : List Low) (s : State) : (frameReaches r now lows s).frame = some { r with elapsed := now } := rfl
@[simp] theorem frameReaches_synchronised (r : FrameRecord) (now : Nat) (lows : List Low) (s : State) : (frameReaches r now lows s).synchronised = s.synchronised := rfl
@[simp] theorem frameReaches_joinCondition (r : FrameRecord) (now : Nat) (lows : List Low) (s : State) : (frameReaches r now lows s).joinCondition = s.joinCondition := rfl
@[simp] theorem frameReaches_highTime (r : FrameRecord) (now : Nat) (lows : List Low) (s : State) : (frameReaches r now lows s).highTime = highAfter s.highTime ((s.followed.map FrameRecord.elapsed).getD 0) now lows := rfl
@[simp] theorem frameReaches_lineLow (r : FrameRecord) (now : Nat) (lows : List Low) (s : State) : (frameReaches r now lows s).lineLow = 
      lowAfter s.mode.listening (if s.opening.isSome then none else s.lineLow)
        ((s.followed.map FrameRecord.elapsed).getD 0) now lows := rfl
@[simp] theorem frameReaches_wakeArmed (r : FrameRecord) (now : Nat) (lows : List Low) (s : State) : (frameReaches r now lows s).wakeArmed = s.wakeArmed := rfl
@[simp] theorem frameReaches_renewTimer (r : FrameRecord) (now : Nat) (lows : List Low) (s : State) : (frameReaches r now lows s).renewTimer = s.renewTimer := rfl
@[simp] theorem frameReaches_windowCap (r : FrameRecord) (now : Nat) (lows : List Low) (s : State) : (frameReaches r now lows s).windowCap = s.windowCap := rfl
@[simp] theorem frameReaches_muteWait (r : FrameRecord) (now : Nat) (lows : List Low) (s : State) : (frameReaches r now lows s).muteWait = s.muteWait := rfl
@[simp] theorem frameReaches_level (r : FrameRecord) (now : Nat) (lows : List Low) (s : State) : (frameReaches r now lows s).level = s.level := rfl
@[simp] theorem frameReaches_rampTarget (r : FrameRecord) (now : Nat) (lows : List Low) (s : State) : (frameReaches r now lows s).rampTarget = s.rampTarget := rfl
@[simp] theorem frameReaches_settle (r : FrameRecord) (now : Nat) (lows : List Low) (s : State) : (frameReaches r now lows s).settle = s.settle := rfl
@[simp] theorem frameReaches_overdrawRun (r : FrameRecord) (now : Nat) (lows : List Low) (s : State) : (frameReaches r now lows s).overdrawRun = s.overdrawRun := rfl
@[simp] theorem frameReaches_underRun (r : FrameRecord) (now : Nat) (lows : List Low) (s : State) : (frameReaches r now lows s).underRun = s.underRun := rfl
@[simp] theorem frameReaches_under (r : FrameRecord) (now : Nat) (lows : List Low) (s : State) : (frameReaches r now lows s).under = s.under := rfl
@[simp] theorem frameReaches_supplyLow (r : FrameRecord) (now : Nat) (lows : List Low) (s : State) : (frameReaches r now lows s).supplyLow = s.supplyLow := rfl
@[simp] theorem frameReaches_droopHold (r : FrameRecord) (now : Nat) (lows : List Low) (s : State) : (frameReaches r now lows s).droopHold = s.droopHold := rfl
@[simp] theorem frameReaches_recovery (r : FrameRecord) (now : Nat) (lows : List Low) (s : State) : (frameReaches r now lows s).recovery = s.recovery := rfl
@[simp] theorem frameReaches_latch (r : FrameRecord) (now : Nat) (lows : List Low) (s : State) : (frameReaches r now lows s).latch = s.latch := rfl
@[simp] theorem frameReaches_mask (r : FrameRecord) (now : Nat) (lows : List Low) (s : State) : (frameReaches r now lows s).mask = s.mask := rfl
@[simp] theorem frameReaches_straddling (r : FrameRecord) (now : Nat) (lows : List Low) (s : State) : (frameReaches r now lows s).straddling = s.straddling := rfl
@[simp] theorem frameReaches_reply (r : FrameRecord) (now : Nat) (lows : List Low) (s : State) : (frameReaches r now lows s).reply = s.reply := rfl
@[simp] theorem frameReaches_fresh (r : FrameRecord) (now : Nat) (lows : List Low) (s : State) : (frameReaches r now lows s).fresh = s.fresh := rfl
@[simp] theorem frameReaches_pending (r : FrameRecord) (now : Nat) (lows : List Low) (s : State) : (frameReaches r now lows s).pending = s.pending := rfl

/-! ### `advanceCounts` -/

@[simp] theorem advanceCounts_resetHeld (s : State) : (advanceCounts s).resetHeld = s.resetHeld := rfl
@[simp] theorem advanceCounts_oneTime (s : State) : (advanceCounts s).oneTime = s.oneTime := rfl
@[simp] theorem advanceCounts_writing (s : State) : (advanceCounts s).writing = s.writing := rfl
@[simp] theorem advanceCounts_written (s : State) : (advanceCounts s).written = s.written := rfl
@[simp] theorem advanceCounts_address (s : State) : (advanceCounts s).address = s.address := rfl
@[simp] theorem advanceCounts_record (s : State) : (advanceCounts s).record = s.record := rfl
@[simp] theorem advanceCounts_cause (s : State) : (advanceCounts s).cause = s.cause := rfl
@[simp] theorem advanceCounts_mode (s : State) : (advanceCounts s).mode = s.mode := rfl
@[simp] theorem advanceCounts_faultCause (s : State) : (advanceCounts s).faultCause = s.faultCause := rfl
@[simp] theorem advanceCounts_voidRun (s : State) : (advanceCounts s).voidRun = s.voidRun := rfl
@[simp] theorem advanceCounts_replicas (s : State) : (advanceCounts s).replicas = s.replicas.map fun e => { e with age := advanceAge e.age } := rfl
@[simp] theorem advanceCounts_holding (s : State) : (advanceCounts s).holding = s.holding := rfl
@[simp] theorem advanceCounts_ownAge (s : State) : (advanceCounts s).ownAge = advanceAge s.ownAge := rfl
@[simp] theorem advanceCounts_requested (s : State) : (advanceCounts s).requested = s.requested := rfl
@[simp] theorem advanceCounts_target (s : State) : (advanceCounts s).target = s.target := rfl
@[simp] theorem advanceCounts_suppression (s : State) : (advanceCounts s).suppression = s.suppression.map (· + 1) := rfl
@[simp] theorem advanceCounts_outbox (s : State) : (advanceCounts s).outbox = s.outbox := rfl
@[simp] theorem advanceCounts_censusRetry (s : State) : (advanceCounts s).censusRetry = s.censusRetry.map (· + 1) := rfl
@[simp] theorem advanceCounts_opening (s : State) : (advanceCounts s).opening = s.opening := rfl
@[simp] theorem advanceCounts_frame (s : State) : (advanceCounts s).frame = s.frame := rfl
@[simp] theorem advanceCounts_synchronised (s : State) : (advanceCounts s).synchronised = s.synchronised := rfl
@[simp] theorem advanceCounts_joinCondition (s : State) : (advanceCounts s).joinCondition = s.joinCondition := rfl
@[simp] theorem advanceCounts_highTime (s : State) : (advanceCounts s).highTime = s.highTime := rfl
@[simp] theorem advanceCounts_lineLow (s : State) : (advanceCounts s).lineLow = s.lineLow := rfl
@[simp] theorem advanceCounts_wakeArmed (s : State) : (advanceCounts s).wakeArmed = s.wakeArmed := rfl
@[simp] theorem advanceCounts_renewTimer (s : State) : (advanceCounts s).renewTimer = s.renewTimer.advance := rfl
@[simp] theorem advanceCounts_windowCap (s : State) : (advanceCounts s).windowCap = s.windowCap.map (· + 1) := rfl
@[simp] theorem advanceCounts_muteWait (s : State) : (advanceCounts s).muteWait = s.muteWait.map (· + 1) := rfl
@[simp] theorem advanceCounts_level (s : State) : (advanceCounts s).level = s.level := rfl
@[simp] theorem advanceCounts_rampTarget (s : State) : (advanceCounts s).rampTarget = s.rampTarget := rfl
@[simp] theorem advanceCounts_settle (s : State) : (advanceCounts s).settle = s.settle := rfl
@[simp] theorem advanceCounts_overdrawRun (s : State) : (advanceCounts s).overdrawRun = s.overdrawRun := rfl
@[simp] theorem advanceCounts_underRun (s : State) : (advanceCounts s).underRun = s.underRun := rfl
@[simp] theorem advanceCounts_under (s : State) : (advanceCounts s).under = s.under := rfl
@[simp] theorem advanceCounts_supplyLow (s : State) : (advanceCounts s).supplyLow = s.supplyLow := rfl
@[simp] theorem advanceCounts_droopHold (s : State) : (advanceCounts s).droopHold = s.droopHold := rfl
@[simp] theorem advanceCounts_recovery (s : State) : (advanceCounts s).recovery = if s.mode = .dormant then s.recovery else s.recovery.map (· + 1) := rfl
@[simp] theorem advanceCounts_latch (s : State) : (advanceCounts s).latch = s.latch := rfl
@[simp] theorem advanceCounts_mask (s : State) : (advanceCounts s).mask = s.mask := rfl
@[simp] theorem advanceCounts_straddling (s : State) : (advanceCounts s).straddling = s.straddling := rfl
@[simp] theorem advanceCounts_reply (s : State) : (advanceCounts s).reply = s.reply := rfl
@[simp] theorem advanceCounts_fresh (s : State) : (advanceCounts s).fresh = s.fresh := rfl
@[simp] theorem advanceCounts_pending (s : State) : (advanceCounts s).pending = s.pending := rfl

end Sys2Proof.Machine
end

