-- ==== Sys2Proof/Laws/Frames.lean ====
section
/-! SUPPORT. What each shared operation with branches leaves alone, field by field, and the one equation that says
which fields it may write. -/

set_option Elab.async false

namespace Sys2Proof.Machine

/-! ### `setHolding` -/

@[simp] theorem setHolding_resetHeld (v : Nat) (s : State) : (setHolding v s).resetHeld = s.resetHeld := by unfold setHolding; dsimp only; split <;> (try split) <;> rfl
@[simp] theorem setHolding_oneTime (v : Nat) (s : State) : (setHolding v s).oneTime = s.oneTime := by unfold setHolding; dsimp only; split <;> (try split) <;> rfl
@[simp] theorem setHolding_writing (v : Nat) (s : State) : (setHolding v s).writing = s.writing := by unfold setHolding; dsimp only; split <;> (try split) <;> rfl
@[simp] theorem setHolding_written (v : Nat) (s : State) : (setHolding v s).written = s.written := by unfold setHolding; dsimp only; split <;> (try split) <;> rfl
@[simp] theorem setHolding_address (v : Nat) (s : State) : (setHolding v s).address = s.address := by unfold setHolding; dsimp only; split <;> (try split) <;> rfl
@[simp] theorem setHolding_record (v : Nat) (s : State) : (setHolding v s).record = s.record := by unfold setHolding; dsimp only; split <;> (try split) <;> rfl
@[simp] theorem setHolding_cause (v : Nat) (s : State) : (setHolding v s).cause = s.cause := by unfold setHolding; dsimp only; split <;> (try split) <;> rfl
@[simp] theorem setHolding_mode (v : Nat) (s : State) : (setHolding v s).mode = s.mode := by unfold setHolding; dsimp only; split <;> (try split) <;> rfl
@[simp] theorem setHolding_faultCause (v : Nat) (s : State) : (setHolding v s).faultCause = s.faultCause := by unfold setHolding; dsimp only; split <;> (try split) <;> rfl
@[simp] theorem setHolding_voidRun (v : Nat) (s : State) : (setHolding v s).voidRun = s.voidRun := by unfold setHolding; dsimp only; split <;> (try split) <;> rfl
@[simp] theorem setHolding_replicas (v : Nat) (s : State) : (setHolding v s).replicas = s.replicas := by unfold setHolding; dsimp only; split <;> (try split) <;> rfl
@[simp] theorem setHolding_ownAge (v : Nat) (s : State) : (setHolding v s).ownAge = s.ownAge := by unfold setHolding; dsimp only; split <;> (try split) <;> rfl
@[simp] theorem setHolding_requested (v : Nat) (s : State) : (setHolding v s).requested = s.requested := by unfold setHolding; dsimp only; split <;> (try split) <;> rfl
@[simp] theorem setHolding_target (v : Nat) (s : State) : (setHolding v s).target = s.target := by unfold setHolding; dsimp only; split <;> (try split) <;> rfl
@[simp] theorem setHolding_suppression (v : Nat) (s : State) : (setHolding v s).suppression = s.suppression := by unfold setHolding; dsimp only; split <;> (try split) <;> rfl
@[simp] theorem setHolding_outbox (v : Nat) (s : State) : (setHolding v s).outbox = s.outbox := by unfold setHolding; dsimp only; split <;> (try split) <;> rfl
@[simp] theorem setHolding_censusRetry (v : Nat) (s : State) : (setHolding v s).censusRetry = s.censusRetry := by unfold setHolding; dsimp only; split <;> (try split) <;> rfl
@[simp] theorem setHolding_opening (v : Nat) (s : State) : (setHolding v s).opening = s.opening := by unfold setHolding; dsimp only; split <;> (try split) <;> rfl
@[simp] theorem setHolding_frame (v : Nat) (s : State) : (setHolding v s).frame = s.frame := by unfold setHolding; dsimp only; split <;> (try split) <;> rfl
@[simp] theorem setHolding_synchronised (v : Nat) (s : State) : (setHolding v s).synchronised = s.synchronised := by unfold setHolding; dsimp only; split <;> (try split) <;> rfl
@[simp] theorem setHolding_joinCondition (v : Nat) (s : State) : (setHolding v s).joinCondition = s.joinCondition := by unfold setHolding; dsimp only; split <;> (try split) <;> rfl
@[simp] theorem setHolding_highTime (v : Nat) (s : State) : (setHolding v s).highTime = s.highTime := by unfold setHolding; dsimp only; split <;> (try split) <;> rfl
@[simp] theorem setHolding_lineLow (v : Nat) (s : State) : (setHolding v s).lineLow = s.lineLow := by unfold setHolding; dsimp only; split <;> (try split) <;> rfl
@[simp] theorem setHolding_wakeArmed (v : Nat) (s : State) : (setHolding v s).wakeArmed = s.wakeArmed := by unfold setHolding; dsimp only; split <;> (try split) <;> rfl
@[simp] theorem setHolding_renewTimer (v : Nat) (s : State) : (setHolding v s).renewTimer = s.renewTimer := by unfold setHolding; dsimp only; split <;> (try split) <;> rfl
@[simp] theorem setHolding_windowCap (v : Nat) (s : State) : (setHolding v s).windowCap = s.windowCap := by unfold setHolding; dsimp only; split <;> (try split) <;> rfl
@[simp] theorem setHolding_muteWait (v : Nat) (s : State) : (setHolding v s).muteWait = s.muteWait := by unfold setHolding; dsimp only; split <;> (try split) <;> rfl
@[simp] theorem setHolding_supplyLow (v : Nat) (s : State) : (setHolding v s).supplyLow = s.supplyLow := by unfold setHolding; dsimp only; split <;> (try split) <;> rfl
@[simp] theorem setHolding_droopHold (v : Nat) (s : State) : (setHolding v s).droopHold = s.droopHold := by unfold setHolding; dsimp only; split <;> (try split) <;> rfl
@[simp] theorem setHolding_recovery (v : Nat) (s : State) : (setHolding v s).recovery = s.recovery := by unfold setHolding; dsimp only; split <;> (try split) <;> rfl
@[simp] theorem setHolding_mask (v : Nat) (s : State) : (setHolding v s).mask = s.mask := by unfold setHolding; dsimp only; split <;> (try split) <;> rfl
@[simp] theorem setHolding_straddling (v : Nat) (s : State) : (setHolding v s).straddling = s.straddling := by unfold setHolding; dsimp only; split <;> (try split) <;> rfl
@[simp] theorem setHolding_reply (v : Nat) (s : State) : (setHolding v s).reply = s.reply := by unfold setHolding; dsimp only; split <;> (try split) <;> rfl
@[simp] theorem setHolding_fresh (v : Nat) (s : State) : (setHolding v s).fresh = s.fresh := by unfold setHolding; dsimp only; split <;> (try split) <;> rfl
@[simp] theorem setHolding_pending (v : Nat) (s : State) : (setHolding v s).pending = s.pending := by unfold setHolding; dsimp only; split <;> (try split) <;> rfl

/-- `setHolding` writes nothing else. -/
theorem setHolding_writes (v : Nat) (s : State) :
    setHolding v s = { s with
      holding := (setHolding v s).holding, level := (setHolding v s).level, rampTarget := (setHolding v
      s).rampTarget, settle := (setHolding v s).settle, overdrawRun := (setHolding v s).overdrawRun,
      underRun := (setHolding v s).underRun, under := (setHolding v s).under, latch := (setHolding v
      s).latch } := by
  apply State.ext <;> simp

/-! ### `withdrawClaim` -/

@[simp] theorem withdrawClaim_resetHeld (s : State) : (withdrawClaim s).resetHeld = s.resetHeld := by unfold withdrawClaim; dsimp only; split <;> rfl
@[simp] theorem withdrawClaim_oneTime (s : State) : (withdrawClaim s).oneTime = s.oneTime := by unfold withdrawClaim; dsimp only; split <;> rfl
@[simp] theorem withdrawClaim_writing (s : State) : (withdrawClaim s).writing = s.writing := by unfold withdrawClaim; dsimp only; split <;> rfl
@[simp] theorem withdrawClaim_written (s : State) : (withdrawClaim s).written = s.written := by unfold withdrawClaim; dsimp only; split <;> rfl
@[simp] theorem withdrawClaim_address (s : State) : (withdrawClaim s).address = s.address := by unfold withdrawClaim; dsimp only; split <;> rfl
@[simp] theorem withdrawClaim_record (s : State) : (withdrawClaim s).record = s.record := by unfold withdrawClaim; dsimp only; split <;> rfl
@[simp] theorem withdrawClaim_cause (s : State) : (withdrawClaim s).cause = s.cause := by unfold withdrawClaim; dsimp only; split <;> rfl
@[simp] theorem withdrawClaim_mode (s : State) : (withdrawClaim s).mode = s.mode := by unfold withdrawClaim; dsimp only; split <;> rfl
@[simp] theorem withdrawClaim_faultCause (s : State) : (withdrawClaim s).faultCause = s.faultCause := by unfold withdrawClaim; dsimp only; split <;> rfl
@[simp] theorem withdrawClaim_voidRun (s : State) : (withdrawClaim s).voidRun = s.voidRun := by unfold withdrawClaim; dsimp only; split <;> rfl
@[simp] theorem withdrawClaim_replicas (s : State) : (withdrawClaim s).replicas = s.replicas := by unfold withdrawClaim; dsimp only; split <;> rfl
@[simp] theorem withdrawClaim_holding (s : State) : (withdrawClaim s).holding = s.holding := by unfold withdrawClaim; dsimp only; split <;> rfl
@[simp] theorem withdrawClaim_ownAge (s : State) : (withdrawClaim s).ownAge = s.ownAge := by unfold withdrawClaim; dsimp only; split <;> rfl
@[simp] theorem withdrawClaim_requested (s : State) : (withdrawClaim s).requested = s.requested := by unfold withdrawClaim; dsimp only; split <;> rfl
@[simp] theorem withdrawClaim_target (s : State) : (withdrawClaim s).target = s.target := by unfold withdrawClaim; dsimp only; split <;> rfl
@[simp] theorem withdrawClaim_suppression (s : State) : (withdrawClaim s).suppression = s.suppression := by unfold withdrawClaim; dsimp only; split <;> rfl
@[simp] theorem withdrawClaim_censusRetry (s : State) : (withdrawClaim s).censusRetry = s.censusRetry := by unfold withdrawClaim; dsimp only; split <;> rfl
@[simp] theorem withdrawClaim_opening (s : State) : (withdrawClaim s).opening = s.opening := by unfold withdrawClaim; dsimp only; split <;> rfl
@[simp] theorem withdrawClaim_frame (s : State) : (withdrawClaim s).frame = s.frame := by unfold withdrawClaim; dsimp only; split <;> rfl
@[simp] theorem withdrawClaim_synchronised (s : State) : (withdrawClaim s).synchronised = s.synchronised := by unfold withdrawClaim; dsimp only; split <;> rfl
@[simp] theorem withdrawClaim_joinCondition (s : State) : (withdrawClaim s).joinCondition = s.joinCondition := by unfold withdrawClaim; dsimp only; split <;> rfl
@[simp] theorem withdrawClaim_highTime (s : State) : (withdrawClaim s).highTime = s.highTime := by unfold withdrawClaim; dsimp only; split <;> rfl
@[simp] theorem withdrawClaim_lineLow (s : State) : (withdrawClaim s).lineLow = s.lineLow := by unfold withdrawClaim; dsimp only; split <;> rfl
@[simp] theorem withdrawClaim_wakeArmed (s : State) : (withdrawClaim s).wakeArmed = s.wakeArmed := by unfold withdrawClaim; dsimp only; split <;> rfl
@[simp] theorem withdrawClaim_renewTimer (s : State) : (withdrawClaim s).renewTimer = s.renewTimer := by unfold withdrawClaim; dsimp only; split <;> rfl
@[simp] theorem withdrawClaim_windowCap (s : State) : (withdrawClaim s).windowCap = s.windowCap := by unfold withdrawClaim; dsimp only; split <;> rfl
@[simp] theorem withdrawClaim_muteWait (s : State) : (withdrawClaim s).muteWait = s.muteWait := by unfold withdrawClaim; dsimp only; split <;> rfl
@[simp] theorem withdrawClaim_level (s : State) : (withdrawClaim s).level = s.level := by unfold withdrawClaim; dsimp only; split <;> rfl
@[simp] theorem withdrawClaim_rampTarget (s : State) : (withdrawClaim s).rampTarget = s.rampTarget := by unfold withdrawClaim; dsimp only; split <;> rfl
@[simp] theorem withdrawClaim_settle (s : State) : (withdrawClaim s).settle = s.settle := by unfold withdrawClaim; dsimp only; split <;> rfl
@[simp] theorem withdrawClaim_overdrawRun (s : State) : (withdrawClaim s).overdrawRun = s.overdrawRun := by unfold withdrawClaim; dsimp only; split <;> rfl
@[simp] theorem withdrawClaim_underRun (s : State) : (withdrawClaim s).underRun = s.underRun := by unfold withdrawClaim; dsimp only; split <;> rfl
@[simp] theorem withdrawClaim_under (s : State) : (withdrawClaim s).under = s.under := by unfold withdrawClaim; dsimp only; split <;> rfl
@[simp] theorem withdrawClaim_supplyLow (s : State) : (withdrawClaim s).supplyLow = s.supplyLow := by unfold withdrawClaim; dsimp only; split <;> rfl
@[simp] theorem withdrawClaim_droopHold (s : State) : (withdrawClaim s).droopHold = s.droopHold := by unfold withdrawClaim; dsimp only; split <;> rfl
@[simp] theorem withdrawClaim_recovery (s : State) : (withdrawClaim s).recovery = s.recovery := by unfold withdrawClaim; dsimp only; split <;> rfl
@[simp] theorem withdrawClaim_latch (s : State) : (withdrawClaim s).latch = s.latch := by unfold withdrawClaim; dsimp only; split <;> rfl
@[simp] theorem withdrawClaim_mask (s : State) : (withdrawClaim s).mask = s.mask := by unfold withdrawClaim; dsimp only; split <;> rfl
@[simp] theorem withdrawClaim_straddling (s : State) : (withdrawClaim s).straddling = s.straddling := by unfold withdrawClaim; dsimp only; split <;> rfl
@[simp] theorem withdrawClaim_reply (s : State) : (withdrawClaim s).reply = s.reply := by unfold withdrawClaim; dsimp only; split <;> rfl
@[simp] theorem withdrawClaim_fresh (s : State) : (withdrawClaim s).fresh = s.fresh := by unfold withdrawClaim; dsimp only; split <;> rfl
@[simp] theorem withdrawClaim_pending (s : State) : (withdrawClaim s).pending = s.pending := by unfold withdrawClaim; dsimp only; split <;> rfl

/-- `withdrawClaim` writes nothing else. -/
theorem withdrawClaim_writes (s : State) :
    withdrawClaim s = { s with
      outbox := (withdrawClaim s).outbox } := by
  apply State.ext <;> simp

/-! ### `demandNotice` -/

@[simp] theorem demandNotice_resetHeld (s : State) : (demandNotice s).resetHeld = s.resetHeld := by unfold demandNotice; split; rfl; split <;> rfl
@[simp] theorem demandNotice_oneTime (s : State) : (demandNotice s).oneTime = s.oneTime := by unfold demandNotice; split; rfl; split <;> rfl
@[simp] theorem demandNotice_writing (s : State) : (demandNotice s).writing = s.writing := by unfold demandNotice; split; rfl; split <;> rfl
@[simp] theorem demandNotice_written (s : State) : (demandNotice s).written = s.written := by unfold demandNotice; split; rfl; split <;> rfl
@[simp] theorem demandNotice_address (s : State) : (demandNotice s).address = s.address := by unfold demandNotice; split; rfl; split <;> rfl
@[simp] theorem demandNotice_record (s : State) : (demandNotice s).record = s.record := by unfold demandNotice; split; rfl; split <;> rfl
@[simp] theorem demandNotice_cause (s : State) : (demandNotice s).cause = s.cause := by unfold demandNotice; split; rfl; split <;> rfl
@[simp] theorem demandNotice_mode (s : State) : (demandNotice s).mode = s.mode := by unfold demandNotice; split; rfl; split <;> rfl
@[simp] theorem demandNotice_faultCause (s : State) : (demandNotice s).faultCause = s.faultCause := by unfold demandNotice; split; rfl; split <;> rfl
@[simp] theorem demandNotice_voidRun (s : State) : (demandNotice s).voidRun = s.voidRun := by unfold demandNotice; split; rfl; split <;> rfl
@[simp] theorem demandNotice_replicas (s : State) : (demandNotice s).replicas = s.replicas := by unfold demandNotice; split; rfl; split <;> rfl
@[simp] theorem demandNotice_holding (s : State) : (demandNotice s).holding = s.holding := by unfold demandNotice; split; rfl; split <;> rfl
@[simp] theorem demandNotice_ownAge (s : State) : (demandNotice s).ownAge = s.ownAge := by unfold demandNotice; split; rfl; split <;> rfl
@[simp] theorem demandNotice_requested (s : State) : (demandNotice s).requested = s.requested := by unfold demandNotice; split; rfl; split <;> rfl
@[simp] theorem demandNotice_target (s : State) : (demandNotice s).target = s.target := by unfold demandNotice; split; rfl; split <;> rfl
@[simp] theorem demandNotice_suppression (s : State) : (demandNotice s).suppression = s.suppression := by unfold demandNotice; split; rfl; split <;> rfl
@[simp] theorem demandNotice_censusRetry (s : State) : (demandNotice s).censusRetry = s.censusRetry := by unfold demandNotice; split; rfl; split <;> rfl
@[simp] theorem demandNotice_opening (s : State) : (demandNotice s).opening = s.opening := by unfold demandNotice; split; rfl; split <;> rfl
@[simp] theorem demandNotice_frame (s : State) : (demandNotice s).frame = s.frame := by unfold demandNotice; split; rfl; split <;> rfl
@[simp] theorem demandNotice_synchronised (s : State) : (demandNotice s).synchronised = s.synchronised := by unfold demandNotice; split; rfl; split <;> rfl
@[simp] theorem demandNotice_joinCondition (s : State) : (demandNotice s).joinCondition = s.joinCondition := by unfold demandNotice; split; rfl; split <;> rfl
@[simp] theorem demandNotice_highTime (s : State) : (demandNotice s).highTime = s.highTime := by unfold demandNotice; split; rfl; split <;> rfl
@[simp] theorem demandNotice_lineLow (s : State) : (demandNotice s).lineLow = s.lineLow := by unfold demandNotice; split; rfl; split <;> rfl
@[simp] theorem demandNotice_wakeArmed (s : State) : (demandNotice s).wakeArmed = s.wakeArmed := by unfold demandNotice; split; rfl; split <;> rfl
@[simp] theorem demandNotice_renewTimer (s : State) : (demandNotice s).renewTimer = s.renewTimer := by unfold demandNotice; split; rfl; split <;> rfl
@[simp] theorem demandNotice_windowCap (s : State) : (demandNotice s).windowCap = s.windowCap := by unfold demandNotice; split; rfl; split <;> rfl
@[simp] theorem demandNotice_muteWait (s : State) : (demandNotice s).muteWait = s.muteWait := by unfold demandNotice; split; rfl; split <;> rfl
@[simp] theorem demandNotice_level (s : State) : (demandNotice s).level = s.level := by unfold demandNotice; split; rfl; split <;> rfl
@[simp] theorem demandNotice_rampTarget (s : State) : (demandNotice s).rampTarget = s.rampTarget := by unfold demandNotice; split; rfl; split <;> rfl
@[simp] theorem demandNotice_settle (s : State) : (demandNotice s).settle = s.settle := by unfold demandNotice; split; rfl; split <;> rfl
@[simp] theorem demandNotice_overdrawRun (s : State) : (demandNotice s).overdrawRun = s.overdrawRun := by unfold demandNotice; split; rfl; split <;> rfl
@[simp] theorem demandNotice_underRun (s : State) : (demandNotice s).underRun = s.underRun := by unfold demandNotice; split; rfl; split <;> rfl
@[simp] theorem demandNotice_under (s : State) : (demandNotice s).under = s.under := by unfold demandNotice; split; rfl; split <;> rfl
@[simp] theorem demandNotice_supplyLow (s : State) : (demandNotice s).supplyLow = s.supplyLow := by unfold demandNotice; split; rfl; split <;> rfl
@[simp] theorem demandNotice_droopHold (s : State) : (demandNotice s).droopHold = s.droopHold := by unfold demandNotice; split; rfl; split <;> rfl
@[simp] theorem demandNotice_recovery (s : State) : (demandNotice s).recovery = s.recovery := by unfold demandNotice; split; rfl; split <;> rfl
@[simp] theorem demandNotice_latch (s : State) : (demandNotice s).latch = s.latch := by unfold demandNotice; split; rfl; split <;> rfl
@[simp] theorem demandNotice_mask (s : State) : (demandNotice s).mask = s.mask := by unfold demandNotice; split; rfl; split <;> rfl
@[simp] theorem demandNotice_straddling (s : State) : (demandNotice s).straddling = s.straddling := by unfold demandNotice; split; rfl; split <;> rfl
@[simp] theorem demandNotice_reply (s : State) : (demandNotice s).reply = s.reply := by unfold demandNotice; split; rfl; split <;> rfl
@[simp] theorem demandNotice_fresh (s : State) : (demandNotice s).fresh = s.fresh := by unfold demandNotice; split; rfl; split <;> rfl
@[simp] theorem demandNotice_pending (s : State) : (demandNotice s).pending = s.pending := by unfold demandNotice; split; rfl; split <;> rfl

/-- `demandNotice` writes nothing else. -/
theorem demandNotice_writes (s : State) :
    demandNotice s = { s with
      outbox := (demandNotice s).outbox } := by
  apply State.ext <;> simp

/-! ### `beginOvercommit` -/

@[simp] theorem beginOvercommit_resetHeld (was : Bool) (s : State) : (beginOvercommit was s).resetHeld = s.resetHeld := by unfold beginOvercommit; split <;> simp
@[simp] theorem beginOvercommit_oneTime (was : Bool) (s : State) : (beginOvercommit was s).oneTime = s.oneTime := by unfold beginOvercommit; split <;> simp
@[simp] theorem beginOvercommit_writing (was : Bool) (s : State) : (beginOvercommit was s).writing = s.writing := by unfold beginOvercommit; split <;> simp
@[simp] theorem beginOvercommit_written (was : Bool) (s : State) : (beginOvercommit was s).written = s.written := by unfold beginOvercommit; split <;> simp
@[simp] theorem beginOvercommit_address (was : Bool) (s : State) : (beginOvercommit was s).address = s.address := by unfold beginOvercommit; split <;> simp
@[simp] theorem beginOvercommit_record (was : Bool) (s : State) : (beginOvercommit was s).record = s.record := by unfold beginOvercommit; split <;> simp
@[simp] theorem beginOvercommit_cause (was : Bool) (s : State) : (beginOvercommit was s).cause = s.cause := by unfold beginOvercommit; split <;> simp
@[simp] theorem beginOvercommit_mode (was : Bool) (s : State) : (beginOvercommit was s).mode = s.mode := by unfold beginOvercommit; split <;> simp
@[simp] theorem beginOvercommit_faultCause (was : Bool) (s : State) : (beginOvercommit was s).faultCause = s.faultCause := by unfold beginOvercommit; split <;> simp
@[simp] theorem beginOvercommit_voidRun (was : Bool) (s : State) : (beginOvercommit was s).voidRun = s.voidRun := by unfold beginOvercommit; split <;> simp
@[simp] theorem beginOvercommit_replicas (was : Bool) (s : State) : (beginOvercommit was s).replicas = s.replicas := by unfold beginOvercommit; split <;> simp
@[simp] theorem beginOvercommit_holding (was : Bool) (s : State) : (beginOvercommit was s).holding = s.holding := by unfold beginOvercommit; split <;> simp
@[simp] theorem beginOvercommit_ownAge (was : Bool) (s : State) : (beginOvercommit was s).ownAge = s.ownAge := by unfold beginOvercommit; split <;> simp
@[simp] theorem beginOvercommit_requested (was : Bool) (s : State) : (beginOvercommit was s).requested = s.requested := by unfold beginOvercommit; split <;> simp
@[simp] theorem beginOvercommit_target (was : Bool) (s : State) : (beginOvercommit was s).target = s.target := by unfold beginOvercommit; split <;> simp
@[simp] theorem beginOvercommit_suppression (was : Bool) (s : State) : (beginOvercommit was s).suppression = s.suppression := by unfold beginOvercommit; split <;> simp
@[simp] theorem beginOvercommit_censusRetry (was : Bool) (s : State) : (beginOvercommit was s).censusRetry = s.censusRetry := by unfold beginOvercommit; split <;> simp
@[simp] theorem beginOvercommit_opening (was : Bool) (s : State) : (beginOvercommit was s).opening = s.opening := by unfold beginOvercommit; split <;> simp
@[simp] theorem beginOvercommit_frame (was : Bool) (s : State) : (beginOvercommit was s).frame = s.frame := by unfold beginOvercommit; split <;> simp
@[simp] theorem beginOvercommit_synchronised (was : Bool) (s : State) : (beginOvercommit was s).synchronised = s.synchronised := by unfold beginOvercommit; split <;> simp
@[simp] theorem beginOvercommit_joinCondition (was : Bool) (s : State) : (beginOvercommit was s).joinCondition = s.joinCondition := by unfold beginOvercommit; split <;> simp
@[simp] theorem beginOvercommit_highTime (was : Bool) (s : State) : (beginOvercommit was s).highTime = s.highTime := by unfold beginOvercommit; split <;> simp
@[simp] theorem beginOvercommit_lineLow (was : Bool) (s : State) : (beginOvercommit was s).lineLow = s.lineLow := by unfold beginOvercommit; split <;> simp
@[simp] theorem beginOvercommit_wakeArmed (was : Bool) (s : State) : (beginOvercommit was s).wakeArmed = s.wakeArmed := by unfold beginOvercommit; split <;> simp
@[simp] theorem beginOvercommit_renewTimer (was : Bool) (s : State) : (beginOvercommit was s).renewTimer = s.renewTimer := by unfold beginOvercommit; split <;> simp
@[simp] theorem beginOvercommit_windowCap (was : Bool) (s : State) : (beginOvercommit was s).windowCap = s.windowCap := by unfold beginOvercommit; split <;> simp
@[simp] theorem beginOvercommit_muteWait (was : Bool) (s : State) : (beginOvercommit was s).muteWait = s.muteWait := by unfold beginOvercommit; split <;> simp
@[simp] theorem beginOvercommit_level (was : Bool) (s : State) : (beginOvercommit was s).level = s.level := by unfold beginOvercommit; split <;> simp
@[simp] theorem beginOvercommit_rampTarget (was : Bool) (s : State) : (beginOvercommit was s).rampTarget = s.rampTarget := by unfold beginOvercommit; split <;> simp
@[simp] theorem beginOvercommit_settle (was : Bool) (s : State) : (beginOvercommit was s).settle = s.settle := by unfold beginOvercommit; split <;> simp
@[simp] theorem beginOvercommit_overdrawRun (was : Bool) (s : State) : (beginOvercommit was s).overdrawRun = s.overdrawRun := by unfold beginOvercommit; split <;> simp
@[simp] theorem beginOvercommit_underRun (was : Bool) (s : State) : (beginOvercommit was s).underRun = s.underRun := by unfold beginOvercommit; split <;> simp
@[simp] theorem beginOvercommit_under (was : Bool) (s : State) : (beginOvercommit was s).under = s.under := by unfold beginOvercommit; split <;> simp
@[simp] theorem beginOvercommit_supplyLow (was : Bool) (s : State) : (beginOvercommit was s).supplyLow = s.supplyLow := by unfold beginOvercommit; split <;> simp
@[simp] theorem beginOvercommit_droopHold (was : Bool) (s : State) : (beginOvercommit was s).droopHold = s.droopHold := by unfold beginOvercommit; split <;> simp
@[simp] theorem beginOvercommit_recovery (was : Bool) (s : State) : (beginOvercommit was s).recovery = s.recovery := by unfold beginOvercommit; split <;> simp
@[simp] theorem beginOvercommit_mask (was : Bool) (s : State) : (beginOvercommit was s).mask = s.mask := by unfold beginOvercommit; split <;> simp
@[simp] theorem beginOvercommit_straddling (was : Bool) (s : State) : (beginOvercommit was s).straddling = s.straddling := by unfold beginOvercommit; split <;> simp
@[simp] theorem beginOvercommit_reply (was : Bool) (s : State) : (beginOvercommit was s).reply = s.reply := by unfold beginOvercommit; split <;> simp
@[simp] theorem beginOvercommit_fresh (was : Bool) (s : State) : (beginOvercommit was s).fresh = s.fresh := by unfold beginOvercommit; split <;> simp
@[simp] theorem beginOvercommit_pending (was : Bool) (s : State) : (beginOvercommit was s).pending = s.pending := by unfold beginOvercommit; split <;> simp

/-- `beginOvercommit` writes nothing else. -/
theorem beginOvercommit_writes (was : Bool) (s : State) :
    beginOvercommit was s = { s with
      outbox := (beginOvercommit was s).outbox, latch := (beginOvercommit was s).latch } := by
  apply State.ext <;> simp

/-! ### `balanceYield` -/

@[simp] theorem balanceYield_resetHeld (s : State) : (balanceYield s).resetHeld = s.resetHeld := by simp [balanceYield]
@[simp] theorem balanceYield_oneTime (s : State) : (balanceYield s).oneTime = s.oneTime := by simp [balanceYield]
@[simp] theorem balanceYield_writing (s : State) : (balanceYield s).writing = s.writing := by simp [balanceYield]
@[simp] theorem balanceYield_written (s : State) : (balanceYield s).written = s.written := by simp [balanceYield]
@[simp] theorem balanceYield_address (s : State) : (balanceYield s).address = s.address := by simp [balanceYield]
@[simp] theorem balanceYield_record (s : State) : (balanceYield s).record = s.record := by simp [balanceYield]
@[simp] theorem balanceYield_cause (s : State) : (balanceYield s).cause = s.cause := by simp [balanceYield]
@[simp] theorem balanceYield_mode (s : State) : (balanceYield s).mode = s.mode := by simp [balanceYield]
@[simp] theorem balanceYield_faultCause (s : State) : (balanceYield s).faultCause = s.faultCause := by simp [balanceYield]
@[simp] theorem balanceYield_voidRun (s : State) : (balanceYield s).voidRun = s.voidRun := by simp [balanceYield]
@[simp] theorem balanceYield_replicas (s : State) : (balanceYield s).replicas = s.replicas := by simp [balanceYield]
@[simp] theorem balanceYield_ownAge (s : State) : (balanceYield s).ownAge = s.ownAge := by simp [balanceYield]
@[simp] theorem balanceYield_requested (s : State) : (balanceYield s).requested = s.requested := by simp [balanceYield]
@[simp] theorem balanceYield_target (s : State) : (balanceYield s).target = s.target := by simp [balanceYield]
@[simp] theorem balanceYield_censusRetry (s : State) : (balanceYield s).censusRetry = s.censusRetry := by simp [balanceYield]
@[simp] theorem balanceYield_opening (s : State) : (balanceYield s).opening = s.opening := by simp [balanceYield]
@[simp] theorem balanceYield_frame (s : State) : (balanceYield s).frame = s.frame := by simp [balanceYield]
@[simp] theorem balanceYield_synchronised (s : State) : (balanceYield s).synchronised = s.synchronised := by simp [balanceYield]
@[simp] theorem balanceYield_joinCondition (s : State) : (balanceYield s).joinCondition = s.joinCondition := by simp [balanceYield]
@[simp] theorem balanceYield_highTime (s : State) : (balanceYield s).highTime = s.highTime := by simp [balanceYield]
@[simp] theorem balanceYield_lineLow (s : State) : (balanceYield s).lineLow = s.lineLow := by simp [balanceYield]
@[simp] theorem balanceYield_wakeArmed (s : State) : (balanceYield s).wakeArmed = s.wakeArmed := by simp [balanceYield]
@[simp] theorem balanceYield_renewTimer (s : State) : (balanceYield s).renewTimer = s.renewTimer := by simp [balanceYield]
@[simp] theorem balanceYield_windowCap (s : State) : (balanceYield s).windowCap = s.windowCap := by simp [balanceYield]
@[simp] theorem balanceYield_muteWait (s : State) : (balanceYield s).muteWait = s.muteWait := by simp [balanceYield]
@[simp] theorem balanceYield_supplyLow (s : State) : (balanceYield s).supplyLow = s.supplyLow := by simp [balanceYield]
@[simp] theorem balanceYield_droopHold (s : State) : (balanceYield s).droopHold = s.droopHold := by simp [balanceYield]
@[simp] theorem balanceYield_recovery (s : State) : (balanceYield s).recovery = s.recovery := by simp [balanceYield]
@[simp] theorem balanceYield_mask (s : State) : (balanceYield s).mask = s.mask := by simp [balanceYield]
@[simp] theorem balanceYield_straddling (s : State) : (balanceYield s).straddling = s.straddling := by simp [balanceYield]
@[simp] theorem balanceYield_reply (s : State) : (balanceYield s).reply = s.reply := by simp [balanceYield]
@[simp] theorem balanceYield_fresh (s : State) : (balanceYield s).fresh = s.fresh := by simp [balanceYield]
@[simp] theorem balanceYield_pending (s : State) : (balanceYield s).pending = s.pending := by simp [balanceYield]

/-- `balanceYield` writes nothing else. -/
theorem balanceYield_writes (s : State) :
    balanceYield s = { s with
      holding := (balanceYield s).holding, suppression := (balanceYield s).suppression, outbox :=
      (balanceYield s).outbox, level := (balanceYield s).level, rampTarget := (balanceYield s).rampTarget,
      settle := (balanceYield s).settle, overdrawRun := (balanceYield s).overdrawRun, underRun :=
      (balanceYield s).underRun, under := (balanceYield s).under, latch := (balanceYield s).latch } := by
  apply State.ext <;> simp

/-! ### `balance` -/

@[simp] theorem balance_resetHeld (s : State) : (balance s).resetHeld = s.resetHeld := by unfold balance; split; simp; split <;> simp
@[simp] theorem balance_oneTime (s : State) : (balance s).oneTime = s.oneTime := by unfold balance; split; simp; split <;> simp
@[simp] theorem balance_writing (s : State) : (balance s).writing = s.writing := by unfold balance; split; simp; split <;> simp
@[simp] theorem balance_written (s : State) : (balance s).written = s.written := by unfold balance; split; simp; split <;> simp
@[simp] theorem balance_address (s : State) : (balance s).address = s.address := by unfold balance; split; simp; split <;> simp
@[simp] theorem balance_record (s : State) : (balance s).record = s.record := by unfold balance; split; simp; split <;> simp
@[simp] theorem balance_cause (s : State) : (balance s).cause = s.cause := by unfold balance; split; simp; split <;> simp
@[simp] theorem balance_mode (s : State) : (balance s).mode = s.mode := by unfold balance; split; simp; split <;> simp
@[simp] theorem balance_faultCause (s : State) : (balance s).faultCause = s.faultCause := by unfold balance; split; simp; split <;> simp
@[simp] theorem balance_voidRun (s : State) : (balance s).voidRun = s.voidRun := by unfold balance; split; simp; split <;> simp
@[simp] theorem balance_replicas (s : State) : (balance s).replicas = s.replicas := by unfold balance; split; simp; split <;> simp
@[simp] theorem balance_ownAge (s : State) : (balance s).ownAge = s.ownAge := by unfold balance; split; simp; split <;> simp
@[simp] theorem balance_requested (s : State) : (balance s).requested = s.requested := by unfold balance; split; simp; split <;> simp
@[simp] theorem balance_target (s : State) : (balance s).target = s.target := by unfold balance; split; simp; split <;> simp
@[simp] theorem balance_censusRetry (s : State) : (balance s).censusRetry = s.censusRetry := by unfold balance; split; simp; split <;> simp
@[simp] theorem balance_opening (s : State) : (balance s).opening = s.opening := by unfold balance; split; simp; split <;> simp
@[simp] theorem balance_frame (s : State) : (balance s).frame = s.frame := by unfold balance; split; simp; split <;> simp
@[simp] theorem balance_synchronised (s : State) : (balance s).synchronised = s.synchronised := by unfold balance; split; simp; split <;> simp
@[simp] theorem balance_joinCondition (s : State) : (balance s).joinCondition = s.joinCondition := by unfold balance; split; simp; split <;> simp
@[simp] theorem balance_highTime (s : State) : (balance s).highTime = s.highTime := by unfold balance; split; simp; split <;> simp
@[simp] theorem balance_lineLow (s : State) : (balance s).lineLow = s.lineLow := by unfold balance; split; simp; split <;> simp
@[simp] theorem balance_wakeArmed (s : State) : (balance s).wakeArmed = s.wakeArmed := by unfold balance; split; simp; split <;> simp
@[simp] theorem balance_renewTimer (s : State) : (balance s).renewTimer = s.renewTimer := by unfold balance; split; simp; split <;> simp
@[simp] theorem balance_windowCap (s : State) : (balance s).windowCap = s.windowCap := by unfold balance; split; simp; split <;> simp
@[simp] theorem balance_muteWait (s : State) : (balance s).muteWait = s.muteWait := by unfold balance; split; simp; split <;> simp
@[simp] theorem balance_supplyLow (s : State) : (balance s).supplyLow = s.supplyLow := by unfold balance; split; simp; split <;> simp
@[simp] theorem balance_droopHold (s : State) : (balance s).droopHold = s.droopHold := by unfold balance; split; simp; split <;> simp
@[simp] theorem balance_recovery (s : State) : (balance s).recovery = s.recovery := by unfold balance; split; simp; split <;> simp
@[simp] theorem balance_mask (s : State) : (balance s).mask = s.mask := by unfold balance; split; simp; split <;> simp
@[simp] theorem balance_straddling (s : State) : (balance s).straddling = s.straddling := by unfold balance; split; simp; split <;> simp
@[simp] theorem balance_reply (s : State) : (balance s).reply = s.reply := by unfold balance; split; simp; split <;> simp
@[simp] theorem balance_fresh (s : State) : (balance s).fresh = s.fresh := by unfold balance; split; simp; split <;> simp
@[simp] theorem balance_pending (s : State) : (balance s).pending = s.pending := by unfold balance; split; simp; split <;> simp

/-- `balance` writes nothing else. -/
theorem balance_writes (s : State) :
    balance s = { s with
      holding := (balance s).holding, suppression := (balance s).suppression, outbox := (balance
      s).outbox, level := (balance s).level, rampTarget := (balance s).rampTarget, settle := (balance
      s).settle, overdrawRun := (balance s).overdrawRun, underRun := (balance s).underRun, under :=
      (balance s).under, latch := (balance s).latch } := by
  apply State.ext <;> simp

/-! ### `recompute` -/

@[simp] theorem recompute_resetHeld (s : State) : (recompute s).resetHeld = s.resetHeld := by simp [recompute]
@[simp] theorem recompute_oneTime (s : State) : (recompute s).oneTime = s.oneTime := by simp [recompute]
@[simp] theorem recompute_writing (s : State) : (recompute s).writing = s.writing := by simp [recompute]
@[simp] theorem recompute_written (s : State) : (recompute s).written = s.written := by simp [recompute]
@[simp] theorem recompute_address (s : State) : (recompute s).address = s.address := by simp [recompute]
@[simp] theorem recompute_record (s : State) : (recompute s).record = s.record := by simp [recompute]
@[simp] theorem recompute_cause (s : State) : (recompute s).cause = s.cause := by simp [recompute]
@[simp] theorem recompute_mode (s : State) : (recompute s).mode = s.mode := by simp [recompute]
@[simp] theorem recompute_faultCause (s : State) : (recompute s).faultCause = s.faultCause := by simp [recompute]
@[simp] theorem recompute_voidRun (s : State) : (recompute s).voidRun = s.voidRun := by simp [recompute]
@[simp] theorem recompute_replicas (s : State) : (recompute s).replicas = s.replicas := by simp [recompute]
@[simp] theorem recompute_ownAge (s : State) : (recompute s).ownAge = s.ownAge := by simp [recompute]
@[simp] theorem recompute_requested (s : State) : (recompute s).requested = s.requested := by simp [recompute]
@[simp] theorem recompute_censusRetry (s : State) : (recompute s).censusRetry = s.censusRetry := by simp [recompute]
@[simp] theorem recompute_opening (s : State) : (recompute s).opening = s.opening := by simp [recompute]
@[simp] theorem recompute_frame (s : State) : (recompute s).frame = s.frame := by simp [recompute]
@[simp] theorem recompute_synchronised (s : State) : (recompute s).synchronised = s.synchronised := by simp [recompute]
@[simp] theorem recompute_joinCondition (s : State) : (recompute s).joinCondition = s.joinCondition := by simp [recompute]
@[simp] theorem recompute_highTime (s : State) : (recompute s).highTime = s.highTime := by simp [recompute]
@[simp] theorem recompute_lineLow (s : State) : (recompute s).lineLow = s.lineLow := by simp [recompute]
@[simp] theorem recompute_wakeArmed (s : State) : (recompute s).wakeArmed = s.wakeArmed := by simp [recompute]
@[simp] theorem recompute_renewTimer (s : State) : (recompute s).renewTimer = s.renewTimer := by simp [recompute]
@[simp] theorem recompute_windowCap (s : State) : (recompute s).windowCap = s.windowCap := by simp [recompute]
@[simp] theorem recompute_muteWait (s : State) : (recompute s).muteWait = s.muteWait := by simp [recompute]
@[simp] theorem recompute_supplyLow (s : State) : (recompute s).supplyLow = s.supplyLow := by simp [recompute]
@[simp] theorem recompute_droopHold (s : State) : (recompute s).droopHold = s.droopHold := by simp [recompute]
@[simp] theorem recompute_recovery (s : State) : (recompute s).recovery = s.recovery := by simp [recompute]
@[simp] theorem recompute_mask (s : State) : (recompute s).mask = s.mask := by simp [recompute]
@[simp] theorem recompute_straddling (s : State) : (recompute s).straddling = s.straddling := by simp [recompute]
@[simp] theorem recompute_reply (s : State) : (recompute s).reply = s.reply := by simp [recompute]
@[simp] theorem recompute_fresh (s : State) : (recompute s).fresh = s.fresh := by simp [recompute]
@[simp] theorem recompute_pending (s : State) : (recompute s).pending = s.pending := by simp [recompute]

/-- `recompute` writes nothing else. -/
theorem recompute_writes (s : State) :
    recompute s = { s with
      holding := (recompute s).holding, target := (recompute s).target, suppression := (recompute
      s).suppression, outbox := (recompute s).outbox, level := (recompute s).level, rampTarget :=
      (recompute s).rampTarget, settle := (recompute s).settle, overdrawRun := (recompute s).overdrawRun,
      underRun := (recompute s).underRun, under := (recompute s).under, latch := (recompute s).latch } := by
  apply State.ext <;> simp

/-! ### `rosterPass` -/

@[simp] theorem rosterPass_resetHeld (was : Bool) (s : State) : (rosterPass was s).resetHeld = s.resetHeld := by simp [rosterPass]
@[simp] theorem rosterPass_oneTime (was : Bool) (s : State) : (rosterPass was s).oneTime = s.oneTime := by simp [rosterPass]
@[simp] theorem rosterPass_writing (was : Bool) (s : State) : (rosterPass was s).writing = s.writing := by simp [rosterPass]
@[simp] theorem rosterPass_written (was : Bool) (s : State) : (rosterPass was s).written = s.written := by simp [rosterPass]
@[simp] theorem rosterPass_address (was : Bool) (s : State) : (rosterPass was s).address = s.address := by simp [rosterPass]
@[simp] theorem rosterPass_record (was : Bool) (s : State) : (rosterPass was s).record = s.record := by simp [rosterPass]
@[simp] theorem rosterPass_cause (was : Bool) (s : State) : (rosterPass was s).cause = s.cause := by simp [rosterPass]
@[simp] theorem rosterPass_mode (was : Bool) (s : State) : (rosterPass was s).mode = s.mode := by simp [rosterPass]
@[simp] theorem rosterPass_faultCause (was : Bool) (s : State) : (rosterPass was s).faultCause = s.faultCause := by simp [rosterPass]
@[simp] theorem rosterPass_voidRun (was : Bool) (s : State) : (rosterPass was s).voidRun = s.voidRun := by simp [rosterPass]
@[simp] theorem rosterPass_replicas (was : Bool) (s : State) : (rosterPass was s).replicas = s.replicas := by simp [rosterPass]
@[simp] theorem rosterPass_ownAge (was : Bool) (s : State) : (rosterPass was s).ownAge = s.ownAge := by simp [rosterPass]
@[simp] theorem rosterPass_requested (was : Bool) (s : State) : (rosterPass was s).requested = s.requested := by simp [rosterPass]
@[simp] theorem rosterPass_censusRetry (was : Bool) (s : State) : (rosterPass was s).censusRetry = s.censusRetry := by simp [rosterPass]
@[simp] theorem rosterPass_opening (was : Bool) (s : State) : (rosterPass was s).opening = s.opening := by simp [rosterPass]
@[simp] theorem rosterPass_frame (was : Bool) (s : State) : (rosterPass was s).frame = s.frame := by simp [rosterPass]
@[simp] theorem rosterPass_synchronised (was : Bool) (s : State) : (rosterPass was s).synchronised = s.synchronised := by simp [rosterPass]
@[simp] theorem rosterPass_joinCondition (was : Bool) (s : State) : (rosterPass was s).joinCondition = s.joinCondition := by simp [rosterPass]
@[simp] theorem rosterPass_highTime (was : Bool) (s : State) : (rosterPass was s).highTime = s.highTime := by simp [rosterPass]
@[simp] theorem rosterPass_lineLow (was : Bool) (s : State) : (rosterPass was s).lineLow = s.lineLow := by simp [rosterPass]
@[simp] theorem rosterPass_wakeArmed (was : Bool) (s : State) : (rosterPass was s).wakeArmed = s.wakeArmed := by simp [rosterPass]
@[simp] theorem rosterPass_renewTimer (was : Bool) (s : State) : (rosterPass was s).renewTimer = s.renewTimer := by simp [rosterPass]
@[simp] theorem rosterPass_windowCap (was : Bool) (s : State) : (rosterPass was s).windowCap = s.windowCap := by simp [rosterPass]
@[simp] theorem rosterPass_muteWait (was : Bool) (s : State) : (rosterPass was s).muteWait = s.muteWait := by simp [rosterPass]
@[simp] theorem rosterPass_supplyLow (was : Bool) (s : State) : (rosterPass was s).supplyLow = s.supplyLow := by simp [rosterPass]
@[simp] theorem rosterPass_droopHold (was : Bool) (s : State) : (rosterPass was s).droopHold = s.droopHold := by simp [rosterPass]
@[simp] theorem rosterPass_recovery (was : Bool) (s : State) : (rosterPass was s).recovery = s.recovery := by simp [rosterPass]
@[simp] theorem rosterPass_mask (was : Bool) (s : State) : (rosterPass was s).mask = s.mask := by simp [rosterPass]
@[simp] theorem rosterPass_straddling (was : Bool) (s : State) : (rosterPass was s).straddling = s.straddling := by simp [rosterPass]
@[simp] theorem rosterPass_reply (was : Bool) (s : State) : (rosterPass was s).reply = s.reply := by simp [rosterPass]
@[simp] theorem rosterPass_fresh (was : Bool) (s : State) : (rosterPass was s).fresh = s.fresh := by simp [rosterPass]
@[simp] theorem rosterPass_pending (was : Bool) (s : State) : (rosterPass was s).pending = s.pending := by simp [rosterPass]

/-- `rosterPass` writes nothing else. -/
theorem rosterPass_writes (was : Bool) (s : State) :
    rosterPass was s = { s with
      holding := (rosterPass was s).holding, target := (rosterPass was s).target, suppression :=
      (rosterPass was s).suppression, outbox := (rosterPass was s).outbox, level := (rosterPass was
      s).level, rampTarget := (rosterPass was s).rampTarget, settle := (rosterPass was s).settle,
      overdrawRun := (rosterPass was s).overdrawRun, underRun := (rosterPass was s).underRun, under :=
      (rosterPass was s).under, latch := (rosterPass was s).latch } := by
  apply State.ext <;> simp

/-! ### `ownPass` -/

@[simp] theorem ownPass_resetHeld (before : State) (s : State) : (ownPass before s).resetHeld = s.resetHeld := by unfold ownPass; split <;> simp
@[simp] theorem ownPass_oneTime (before : State) (s : State) : (ownPass before s).oneTime = s.oneTime := by unfold ownPass; split <;> simp
@[simp] theorem ownPass_writing (before : State) (s : State) : (ownPass before s).writing = s.writing := by unfold ownPass; split <;> simp
@[simp] theorem ownPass_written (before : State) (s : State) : (ownPass before s).written = s.written := by unfold ownPass; split <;> simp
@[simp] theorem ownPass_address (before : State) (s : State) : (ownPass before s).address = s.address := by unfold ownPass; split <;> simp
@[simp] theorem ownPass_record (before : State) (s : State) : (ownPass before s).record = s.record := by unfold ownPass; split <;> simp
@[simp] theorem ownPass_cause (before : State) (s : State) : (ownPass before s).cause = s.cause := by unfold ownPass; split <;> simp
@[simp] theorem ownPass_mode (before : State) (s : State) : (ownPass before s).mode = s.mode := by unfold ownPass; split <;> simp
@[simp] theorem ownPass_faultCause (before : State) (s : State) : (ownPass before s).faultCause = s.faultCause := by unfold ownPass; split <;> simp
@[simp] theorem ownPass_voidRun (before : State) (s : State) : (ownPass before s).voidRun = s.voidRun := by unfold ownPass; split <;> simp
@[simp] theorem ownPass_replicas (before : State) (s : State) : (ownPass before s).replicas = s.replicas := by unfold ownPass; split <;> simp
@[simp] theorem ownPass_ownAge (before : State) (s : State) : (ownPass before s).ownAge = s.ownAge := by unfold ownPass; split <;> simp
@[simp] theorem ownPass_requested (before : State) (s : State) : (ownPass before s).requested = s.requested := by unfold ownPass; split <;> simp
@[simp] theorem ownPass_censusRetry (before : State) (s : State) : (ownPass before s).censusRetry = s.censusRetry := by unfold ownPass; split <;> simp
@[simp] theorem ownPass_opening (before : State) (s : State) : (ownPass before s).opening = s.opening := by unfold ownPass; split <;> simp
@[simp] theorem ownPass_frame (before : State) (s : State) : (ownPass before s).frame = s.frame := by unfold ownPass; split <;> simp
@[simp] theorem ownPass_synchronised (before : State) (s : State) : (ownPass before s).synchronised = s.synchronised := by unfold ownPass; split <;> simp
@[simp] theorem ownPass_joinCondition (before : State) (s : State) : (ownPass before s).joinCondition = s.joinCondition := by unfold ownPass; split <;> simp
@[simp] theorem ownPass_highTime (before : State) (s : State) : (ownPass before s).highTime = s.highTime := by unfold ownPass; split <;> simp
@[simp] theorem ownPass_lineLow (before : State) (s : State) : (ownPass before s).lineLow = s.lineLow := by unfold ownPass; split <;> simp
@[simp] theorem ownPass_wakeArmed (before : State) (s : State) : (ownPass before s).wakeArmed = s.wakeArmed := by unfold ownPass; split <;> simp
@[simp] theorem ownPass_renewTimer (before : State) (s : State) : (ownPass before s).renewTimer = s.renewTimer := by unfold ownPass; split <;> simp
@[simp] theorem ownPass_windowCap (before : State) (s : State) : (ownPass before s).windowCap = s.windowCap := by unfold ownPass; split <;> simp
@[simp] theorem ownPass_muteWait (before : State) (s : State) : (ownPass before s).muteWait = s.muteWait := by unfold ownPass; split <;> simp
@[simp] theorem ownPass_supplyLow (before : State) (s : State) : (ownPass before s).supplyLow = s.supplyLow := by unfold ownPass; split <;> simp
@[simp] theorem ownPass_droopHold (before : State) (s : State) : (ownPass before s).droopHold = s.droopHold := by unfold ownPass; split <;> simp
@[simp] theorem ownPass_recovery (before : State) (s : State) : (ownPass before s).recovery = s.recovery := by unfold ownPass; split <;> simp
@[simp] theorem ownPass_mask (before : State) (s : State) : (ownPass before s).mask = s.mask := by unfold ownPass; split <;> simp
@[simp] theorem ownPass_straddling (before : State) (s : State) : (ownPass before s).straddling = s.straddling := by unfold ownPass; split <;> simp
@[simp] theorem ownPass_reply (before : State) (s : State) : (ownPass before s).reply = s.reply := by unfold ownPass; split <;> simp
@[simp] theorem ownPass_fresh (before : State) (s : State) : (ownPass before s).fresh = s.fresh := by unfold ownPass; split <;> simp
@[simp] theorem ownPass_pending (before : State) (s : State) : (ownPass before s).pending = s.pending := by unfold ownPass; split <;> simp

/-- `ownPass` writes nothing else. -/
theorem ownPass_writes (before : State) (s : State) :
    ownPass before s = { s with
      holding := (ownPass before s).holding, target := (ownPass before s).target, suppression := (ownPass
      before s).suppression, outbox := (ownPass before s).outbox, level := (ownPass before s).level,
      rampTarget := (ownPass before s).rampTarget, settle := (ownPass before s).settle, overdrawRun :=
      (ownPass before s).overdrawRun, underRun := (ownPass before s).underRun, under := (ownPass before
      s).under, latch := (ownPass before s).latch } := by
  apply State.ext <;> simp

/-! ### `entryPass` -/

@[simp] theorem entryPass_resetHeld (before : State) (s : State) : (entryPass before s).resetHeld = s.resetHeld := by unfold entryPass; split <;> simp
@[simp] theorem entryPass_oneTime (before : State) (s : State) : (entryPass before s).oneTime = s.oneTime := by unfold entryPass; split <;> simp
@[simp] theorem entryPass_writing (before : State) (s : State) : (entryPass before s).writing = s.writing := by unfold entryPass; split <;> simp
@[simp] theorem entryPass_written (before : State) (s : State) : (entryPass before s).written = s.written := by unfold entryPass; split <;> simp
@[simp] theorem entryPass_address (before : State) (s : State) : (entryPass before s).address = s.address := by unfold entryPass; split <;> simp
@[simp] theorem entryPass_record (before : State) (s : State) : (entryPass before s).record = s.record := by unfold entryPass; split <;> simp
@[simp] theorem entryPass_cause (before : State) (s : State) : (entryPass before s).cause = s.cause := by unfold entryPass; split <;> simp
@[simp] theorem entryPass_mode (before : State) (s : State) : (entryPass before s).mode = s.mode := by unfold entryPass; split <;> simp
@[simp] theorem entryPass_faultCause (before : State) (s : State) : (entryPass before s).faultCause = s.faultCause := by unfold entryPass; split <;> simp
@[simp] theorem entryPass_voidRun (before : State) (s : State) : (entryPass before s).voidRun = s.voidRun := by unfold entryPass; split <;> simp
@[simp] theorem entryPass_replicas (before : State) (s : State) : (entryPass before s).replicas = s.replicas := by unfold entryPass; split <;> simp
@[simp] theorem entryPass_ownAge (before : State) (s : State) : (entryPass before s).ownAge = s.ownAge := by unfold entryPass; split <;> simp
@[simp] theorem entryPass_requested (before : State) (s : State) : (entryPass before s).requested = s.requested := by unfold entryPass; split <;> simp
@[simp] theorem entryPass_censusRetry (before : State) (s : State) : (entryPass before s).censusRetry = s.censusRetry := by unfold entryPass; split <;> simp
@[simp] theorem entryPass_opening (before : State) (s : State) : (entryPass before s).opening = s.opening := by unfold entryPass; split <;> simp
@[simp] theorem entryPass_frame (before : State) (s : State) : (entryPass before s).frame = s.frame := by unfold entryPass; split <;> simp
@[simp] theorem entryPass_synchronised (before : State) (s : State) : (entryPass before s).synchronised = s.synchronised := by unfold entryPass; split <;> simp
@[simp] theorem entryPass_joinCondition (before : State) (s : State) : (entryPass before s).joinCondition = s.joinCondition := by unfold entryPass; split <;> simp
@[simp] theorem entryPass_highTime (before : State) (s : State) : (entryPass before s).highTime = s.highTime := by unfold entryPass; split <;> simp
@[simp] theorem entryPass_lineLow (before : State) (s : State) : (entryPass before s).lineLow = s.lineLow := by unfold entryPass; split <;> simp
@[simp] theorem entryPass_wakeArmed (before : State) (s : State) : (entryPass before s).wakeArmed = s.wakeArmed := by unfold entryPass; split <;> simp
@[simp] theorem entryPass_renewTimer (before : State) (s : State) : (entryPass before s).renewTimer = s.renewTimer := by unfold entryPass; split <;> simp
@[simp] theorem entryPass_windowCap (before : State) (s : State) : (entryPass before s).windowCap = s.windowCap := by unfold entryPass; split <;> simp
@[simp] theorem entryPass_muteWait (before : State) (s : State) : (entryPass before s).muteWait = s.muteWait := by unfold entryPass; split <;> simp
@[simp] theorem entryPass_supplyLow (before : State) (s : State) : (entryPass before s).supplyLow = s.supplyLow := by unfold entryPass; split <;> simp
@[simp] theorem entryPass_droopHold (before : State) (s : State) : (entryPass before s).droopHold = s.droopHold := by unfold entryPass; split <;> simp
@[simp] theorem entryPass_recovery (before : State) (s : State) : (entryPass before s).recovery = s.recovery := by unfold entryPass; split <;> simp
@[simp] theorem entryPass_mask (before : State) (s : State) : (entryPass before s).mask = s.mask := by unfold entryPass; split <;> simp
@[simp] theorem entryPass_straddling (before : State) (s : State) : (entryPass before s).straddling = s.straddling := by unfold entryPass; split <;> simp
@[simp] theorem entryPass_reply (before : State) (s : State) : (entryPass before s).reply = s.reply := by unfold entryPass; split <;> simp
@[simp] theorem entryPass_fresh (before : State) (s : State) : (entryPass before s).fresh = s.fresh := by unfold entryPass; split <;> simp
@[simp] theorem entryPass_pending (before : State) (s : State) : (entryPass before s).pending = s.pending := by unfold entryPass; split <;> simp

/-- `entryPass` writes nothing else. -/
theorem entryPass_writes (before : State) (s : State) :
    entryPass before s = { s with
      holding := (entryPass before s).holding, target := (entryPass before s).target, suppression :=
      (entryPass before s).suppression, outbox := (entryPass before s).outbox, level := (entryPass before
      s).level, rampTarget := (entryPass before s).rampTarget, settle := (entryPass before s).settle,
      overdrawRun := (entryPass before s).overdrawRun, underRun := (entryPass before s).underRun, under :=
      (entryPass before s).under, latch := (entryPass before s).latch } := by
  apply State.ext <;> simp

/-! ### `announceDemand` -/

@[simp] theorem announceDemand_resetHeld (before : State) (s : State) : (announceDemand before s).resetHeld = s.resetHeld := by unfold announceDemand; split <;> simp
@[simp] theorem announceDemand_oneTime (before : State) (s : State) : (announceDemand before s).oneTime = s.oneTime := by unfold announceDemand; split <;> simp
@[simp] theorem announceDemand_writing (before : State) (s : State) : (announceDemand before s).writing = s.writing := by unfold announceDemand; split <;> simp
@[simp] theorem announceDemand_written (before : State) (s : State) : (announceDemand before s).written = s.written := by unfold announceDemand; split <;> simp
@[simp] theorem announceDemand_address (before : State) (s : State) : (announceDemand before s).address = s.address := by unfold announceDemand; split <;> simp
@[simp] theorem announceDemand_record (before : State) (s : State) : (announceDemand before s).record = s.record := by unfold announceDemand; split <;> simp
@[simp] theorem announceDemand_cause (before : State) (s : State) : (announceDemand before s).cause = s.cause := by unfold announceDemand; split <;> simp
@[simp] theorem announceDemand_mode (before : State) (s : State) : (announceDemand before s).mode = s.mode := by unfold announceDemand; split <;> simp
@[simp] theorem announceDemand_faultCause (before : State) (s : State) : (announceDemand before s).faultCause = s.faultCause := by unfold announceDemand; split <;> simp
@[simp] theorem announceDemand_voidRun (before : State) (s : State) : (announceDemand before s).voidRun = s.voidRun := by unfold announceDemand; split <;> simp
@[simp] theorem announceDemand_replicas (before : State) (s : State) : (announceDemand before s).replicas = s.replicas := by unfold announceDemand; split <;> simp
@[simp] theorem announceDemand_holding (before : State) (s : State) : (announceDemand before s).holding = s.holding := by unfold announceDemand; split <;> simp
@[simp] theorem announceDemand_ownAge (before : State) (s : State) : (announceDemand before s).ownAge = s.ownAge := by unfold announceDemand; split <;> simp
@[simp] theorem announceDemand_requested (before : State) (s : State) : (announceDemand before s).requested = s.requested := by unfold announceDemand; split <;> simp
@[simp] theorem announceDemand_target (before : State) (s : State) : (announceDemand before s).target = s.target := by unfold announceDemand; split <;> simp
@[simp] theorem announceDemand_suppression (before : State) (s : State) : (announceDemand before s).suppression = s.suppression := by unfold announceDemand; split <;> simp
@[simp] theorem announceDemand_censusRetry (before : State) (s : State) : (announceDemand before s).censusRetry = s.censusRetry := by unfold announceDemand; split <;> simp
@[simp] theorem announceDemand_opening (before : State) (s : State) : (announceDemand before s).opening = s.opening := by unfold announceDemand; split <;> simp
@[simp] theorem announceDemand_frame (before : State) (s : State) : (announceDemand before s).frame = s.frame := by unfold announceDemand; split <;> simp
@[simp] theorem announceDemand_synchronised (before : State) (s : State) : (announceDemand before s).synchronised = s.synchronised := by unfold announceDemand; split <;> simp
@[simp] theorem announceDemand_joinCondition (before : State) (s : State) : (announceDemand before s).joinCondition = s.joinCondition := by unfold announceDemand; split <;> simp
@[simp] theorem announceDemand_highTime (before : State) (s : State) : (announceDemand before s).highTime = s.highTime := by unfold announceDemand; split <;> simp
@[simp] theorem announceDemand_lineLow (before : State) (s : State) : (announceDemand before s).lineLow = s.lineLow := by unfold announceDemand; split <;> simp
@[simp] theorem announceDemand_wakeArmed (before : State) (s : State) : (announceDemand before s).wakeArmed = s.wakeArmed := by unfold announceDemand; split <;> simp
@[simp] theorem announceDemand_renewTimer (before : State) (s : State) : (announceDemand before s).renewTimer = s.renewTimer := by unfold announceDemand; split <;> simp
@[simp] theorem announceDemand_windowCap (before : State) (s : State) : (announceDemand before s).windowCap = s.windowCap := by unfold announceDemand; split <;> simp
@[simp] theorem announceDemand_muteWait (before : State) (s : State) : (announceDemand before s).muteWait = s.muteWait := by unfold announceDemand; split <;> simp
@[simp] theorem announceDemand_level (before : State) (s : State) : (announceDemand before s).level = s.level := by unfold announceDemand; split <;> simp
@[simp] theorem announceDemand_rampTarget (before : State) (s : State) : (announceDemand before s).rampTarget = s.rampTarget := by unfold announceDemand; split <;> simp
@[simp] theorem announceDemand_settle (before : State) (s : State) : (announceDemand before s).settle = s.settle := by unfold announceDemand; split <;> simp
@[simp] theorem announceDemand_overdrawRun (before : State) (s : State) : (announceDemand before s).overdrawRun = s.overdrawRun := by unfold announceDemand; split <;> simp
@[simp] theorem announceDemand_underRun (before : State) (s : State) : (announceDemand before s).underRun = s.underRun := by unfold announceDemand; split <;> simp
@[simp] theorem announceDemand_under (before : State) (s : State) : (announceDemand before s).under = s.under := by unfold announceDemand; split <;> simp
@[simp] theorem announceDemand_supplyLow (before : State) (s : State) : (announceDemand before s).supplyLow = s.supplyLow := by unfold announceDemand; split <;> simp
@[simp] theorem announceDemand_droopHold (before : State) (s : State) : (announceDemand before s).droopHold = s.droopHold := by unfold announceDemand; split <;> simp
@[simp] theorem announceDemand_recovery (before : State) (s : State) : (announceDemand before s).recovery = s.recovery := by unfold announceDemand; split <;> simp
@[simp] theorem announceDemand_latch (before : State) (s : State) : (announceDemand before s).latch = s.latch := by unfold announceDemand; split <;> simp
@[simp] theorem announceDemand_mask (before : State) (s : State) : (announceDemand before s).mask = s.mask := by unfold announceDemand; split <;> simp
@[simp] theorem announceDemand_straddling (before : State) (s : State) : (announceDemand before s).straddling = s.straddling := by unfold announceDemand; split <;> simp
@[simp] theorem announceDemand_reply (before : State) (s : State) : (announceDemand before s).reply = s.reply := by unfold announceDemand; split <;> simp
@[simp] theorem announceDemand_fresh (before : State) (s : State) : (announceDemand before s).fresh = s.fresh := by unfold announceDemand; split <;> simp
@[simp] theorem announceDemand_pending (before : State) (s : State) : (announceDemand before s).pending = s.pending := by unfold announceDemand; split <;> simp

/-- `announceDemand` writes nothing else. -/
theorem announceDemand_writes (before : State) (s : State) :
    announceDemand before s = { s with
      outbox := (announceDemand before s).outbox } := by
  apply State.ext <;> simp

/-! ### `renewOnRise` -/

@[simp] theorem renewOnRise_resetHeld (before : State) (s : State) : (renewOnRise before s).resetHeld = s.resetHeld := by unfold renewOnRise; split <;> simp
@[simp] theorem renewOnRise_oneTime (before : State) (s : State) : (renewOnRise before s).oneTime = s.oneTime := by unfold renewOnRise; split <;> simp
@[simp] theorem renewOnRise_writing (before : State) (s : State) : (renewOnRise before s).writing = s.writing := by unfold renewOnRise; split <;> simp
@[simp] theorem renewOnRise_written (before : State) (s : State) : (renewOnRise before s).written = s.written := by unfold renewOnRise; split <;> simp
@[simp] theorem renewOnRise_address (before : State) (s : State) : (renewOnRise before s).address = s.address := by unfold renewOnRise; split <;> simp
@[simp] theorem renewOnRise_record (before : State) (s : State) : (renewOnRise before s).record = s.record := by unfold renewOnRise; split <;> simp
@[simp] theorem renewOnRise_cause (before : State) (s : State) : (renewOnRise before s).cause = s.cause := by unfold renewOnRise; split <;> simp
@[simp] theorem renewOnRise_mode (before : State) (s : State) : (renewOnRise before s).mode = s.mode := by unfold renewOnRise; split <;> simp
@[simp] theorem renewOnRise_faultCause (before : State) (s : State) : (renewOnRise before s).faultCause = s.faultCause := by unfold renewOnRise; split <;> simp
@[simp] theorem renewOnRise_voidRun (before : State) (s : State) : (renewOnRise before s).voidRun = s.voidRun := by unfold renewOnRise; split <;> simp
@[simp] theorem renewOnRise_replicas (before : State) (s : State) : (renewOnRise before s).replicas = s.replicas := by unfold renewOnRise; split <;> simp
@[simp] theorem renewOnRise_holding (before : State) (s : State) : (renewOnRise before s).holding = s.holding := by unfold renewOnRise; split <;> simp
@[simp] theorem renewOnRise_ownAge (before : State) (s : State) : (renewOnRise before s).ownAge = s.ownAge := by unfold renewOnRise; split <;> simp
@[simp] theorem renewOnRise_requested (before : State) (s : State) : (renewOnRise before s).requested = s.requested := by unfold renewOnRise; split <;> simp
@[simp] theorem renewOnRise_target (before : State) (s : State) : (renewOnRise before s).target = s.target := by unfold renewOnRise; split <;> simp
@[simp] theorem renewOnRise_suppression (before : State) (s : State) : (renewOnRise before s).suppression = s.suppression := by unfold renewOnRise; split <;> simp
@[simp] theorem renewOnRise_censusRetry (before : State) (s : State) : (renewOnRise before s).censusRetry = s.censusRetry := by unfold renewOnRise; split <;> simp
@[simp] theorem renewOnRise_opening (before : State) (s : State) : (renewOnRise before s).opening = s.opening := by unfold renewOnRise; split <;> simp
@[simp] theorem renewOnRise_frame (before : State) (s : State) : (renewOnRise before s).frame = s.frame := by unfold renewOnRise; split <;> simp
@[simp] theorem renewOnRise_synchronised (before : State) (s : State) : (renewOnRise before s).synchronised = s.synchronised := by unfold renewOnRise; split <;> simp
@[simp] theorem renewOnRise_joinCondition (before : State) (s : State) : (renewOnRise before s).joinCondition = s.joinCondition := by unfold renewOnRise; split <;> simp
@[simp] theorem renewOnRise_highTime (before : State) (s : State) : (renewOnRise before s).highTime = s.highTime := by unfold renewOnRise; split <;> simp
@[simp] theorem renewOnRise_lineLow (before : State) (s : State) : (renewOnRise before s).lineLow = s.lineLow := by unfold renewOnRise; split <;> simp
@[simp] theorem renewOnRise_wakeArmed (before : State) (s : State) : (renewOnRise before s).wakeArmed = s.wakeArmed := by unfold renewOnRise; split <;> simp
@[simp] theorem renewOnRise_renewTimer (before : State) (s : State) : (renewOnRise before s).renewTimer = s.renewTimer := by unfold renewOnRise; split <;> simp
@[simp] theorem renewOnRise_windowCap (before : State) (s : State) : (renewOnRise before s).windowCap = s.windowCap := by unfold renewOnRise; split <;> simp
@[simp] theorem renewOnRise_muteWait (before : State) (s : State) : (renewOnRise before s).muteWait = s.muteWait := by unfold renewOnRise; split <;> simp
@[simp] theorem renewOnRise_level (before : State) (s : State) : (renewOnRise before s).level = s.level := by unfold renewOnRise; split <;> simp
@[simp] theorem renewOnRise_rampTarget (before : State) (s : State) : (renewOnRise before s).rampTarget = s.rampTarget := by unfold renewOnRise; split <;> simp
@[simp] theorem renewOnRise_settle (before : State) (s : State) : (renewOnRise before s).settle = s.settle := by unfold renewOnRise; split <;> simp
@[simp] theorem renewOnRise_overdrawRun (before : State) (s : State) : (renewOnRise before s).overdrawRun = s.overdrawRun := by unfold renewOnRise; split <;> simp
@[simp] theorem renewOnRise_underRun (before : State) (s : State) : (renewOnRise before s).underRun = s.underRun := by unfold renewOnRise; split <;> simp
@[simp] theorem renewOnRise_under (before : State) (s : State) : (renewOnRise before s).under = s.under := by unfold renewOnRise; split <;> simp
@[simp] theorem renewOnRise_supplyLow (before : State) (s : State) : (renewOnRise before s).supplyLow = s.supplyLow := by unfold renewOnRise; split <;> simp
@[simp] theorem renewOnRise_droopHold (before : State) (s : State) : (renewOnRise before s).droopHold = s.droopHold := by unfold renewOnRise; split <;> simp
@[simp] theorem renewOnRise_recovery (before : State) (s : State) : (renewOnRise before s).recovery = s.recovery := by unfold renewOnRise; split <;> simp
@[simp] theorem renewOnRise_latch (before : State) (s : State) : (renewOnRise before s).latch = s.latch := by unfold renewOnRise; split <;> simp
@[simp] theorem renewOnRise_mask (before : State) (s : State) : (renewOnRise before s).mask = s.mask := by unfold renewOnRise; split <;> simp
@[simp] theorem renewOnRise_straddling (before : State) (s : State) : (renewOnRise before s).straddling = s.straddling := by unfold renewOnRise; split <;> simp
@[simp] theorem renewOnRise_reply (before : State) (s : State) : (renewOnRise before s).reply = s.reply := by unfold renewOnRise; split <;> simp
@[simp] theorem renewOnRise_fresh (before : State) (s : State) : (renewOnRise before s).fresh = s.fresh := by unfold renewOnRise; split <;> simp
@[simp] theorem renewOnRise_pending (before : State) (s : State) : (renewOnRise before s).pending = s.pending := by unfold renewOnRise; split <;> simp

/-- `renewOnRise` writes nothing else. -/
theorem renewOnRise_writes (before : State) (s : State) :
    renewOnRise before s = { s with
      outbox := (renewOnRise before s).outbox } := by
  apply State.ext <;> simp

/-! ### `addHigh` -/

@[simp] theorem addHigh_resetHeld (n : Nat) (s : State) : (addHigh n s).resetHeld = s.resetHeld := by unfold addHigh; split <;> rfl
@[simp] theorem addHigh_oneTime (n : Nat) (s : State) : (addHigh n s).oneTime = s.oneTime := by unfold addHigh; split <;> rfl
@[simp] theorem addHigh_writing (n : Nat) (s : State) : (addHigh n s).writing = s.writing := by unfold addHigh; split <;> rfl
@[simp] theorem addHigh_written (n : Nat) (s : State) : (addHigh n s).written = s.written := by unfold addHigh; split <;> rfl
@[simp] theorem addHigh_address (n : Nat) (s : State) : (addHigh n s).address = s.address := by unfold addHigh; split <;> rfl
@[simp] theorem addHigh_record (n : Nat) (s : State) : (addHigh n s).record = s.record := by unfold addHigh; split <;> rfl
@[simp] theorem addHigh_cause (n : Nat) (s : State) : (addHigh n s).cause = s.cause := by unfold addHigh; split <;> rfl
@[simp] theorem addHigh_mode (n : Nat) (s : State) : (addHigh n s).mode = s.mode := by unfold addHigh; split <;> rfl
@[simp] theorem addHigh_faultCause (n : Nat) (s : State) : (addHigh n s).faultCause = s.faultCause := by unfold addHigh; split <;> rfl
@[simp] theorem addHigh_voidRun (n : Nat) (s : State) : (addHigh n s).voidRun = s.voidRun := by unfold addHigh; split <;> rfl
@[simp] theorem addHigh_replicas (n : Nat) (s : State) : (addHigh n s).replicas = s.replicas := by unfold addHigh; split <;> rfl
@[simp] theorem addHigh_holding (n : Nat) (s : State) : (addHigh n s).holding = s.holding := by unfold addHigh; split <;> rfl
@[simp] theorem addHigh_ownAge (n : Nat) (s : State) : (addHigh n s).ownAge = s.ownAge := by unfold addHigh; split <;> rfl
@[simp] theorem addHigh_requested (n : Nat) (s : State) : (addHigh n s).requested = s.requested := by unfold addHigh; split <;> rfl
@[simp] theorem addHigh_target (n : Nat) (s : State) : (addHigh n s).target = s.target := by unfold addHigh; split <;> rfl
@[simp] theorem addHigh_suppression (n : Nat) (s : State) : (addHigh n s).suppression = s.suppression := by unfold addHigh; split <;> rfl
@[simp] theorem addHigh_outbox (n : Nat) (s : State) : (addHigh n s).outbox = s.outbox := by unfold addHigh; split <;> rfl
@[simp] theorem addHigh_censusRetry (n : Nat) (s : State) : (addHigh n s).censusRetry = s.censusRetry := by unfold addHigh; split <;> rfl
@[simp] theorem addHigh_opening (n : Nat) (s : State) : (addHigh n s).opening = s.opening := by unfold addHigh; split <;> rfl
@[simp] theorem addHigh_frame (n : Nat) (s : State) : (addHigh n s).frame = s.frame := by unfold addHigh; split <;> rfl
@[simp] theorem addHigh_synchronised (n : Nat) (s : State) : (addHigh n s).synchronised = s.synchronised := by unfold addHigh; split <;> rfl
@[simp] theorem addHigh_joinCondition (n : Nat) (s : State) : (addHigh n s).joinCondition = s.joinCondition := by unfold addHigh; split <;> rfl
@[simp] theorem addHigh_lineLow (n : Nat) (s : State) : (addHigh n s).lineLow = s.lineLow := by unfold addHigh; split <;> rfl
@[simp] theorem addHigh_wakeArmed (n : Nat) (s : State) : (addHigh n s).wakeArmed = s.wakeArmed := by unfold addHigh; split <;> rfl
@[simp] theorem addHigh_renewTimer (n : Nat) (s : State) : (addHigh n s).renewTimer = s.renewTimer := by unfold addHigh; split <;> rfl
@[simp] theorem addHigh_windowCap (n : Nat) (s : State) : (addHigh n s).windowCap = s.windowCap := by unfold addHigh; split <;> rfl
@[simp] theorem addHigh_muteWait (n : Nat) (s : State) : (addHigh n s).muteWait = s.muteWait := by unfold addHigh; split <;> rfl
@[simp] theorem addHigh_level (n : Nat) (s : State) : (addHigh n s).level = s.level := by unfold addHigh; split <;> rfl
@[simp] theorem addHigh_rampTarget (n : Nat) (s : State) : (addHigh n s).rampTarget = s.rampTarget := by unfold addHigh; split <;> rfl
@[simp] theorem addHigh_settle (n : Nat) (s : State) : (addHigh n s).settle = s.settle := by unfold addHigh; split <;> rfl
@[simp] theorem addHigh_overdrawRun (n : Nat) (s : State) : (addHigh n s).overdrawRun = s.overdrawRun := by unfold addHigh; split <;> rfl
@[simp] theorem addHigh_underRun (n : Nat) (s : State) : (addHigh n s).underRun = s.underRun := by unfold addHigh; split <;> rfl
@[simp] theorem addHigh_under (n : Nat) (s : State) : (addHigh n s).under = s.under := by unfold addHigh; split <;> rfl
@[simp] theorem addHigh_supplyLow (n : Nat) (s : State) : (addHigh n s).supplyLow = s.supplyLow := by unfold addHigh; split <;> rfl
@[simp] theorem addHigh_droopHold (n : Nat) (s : State) : (addHigh n s).droopHold = s.droopHold := by unfold addHigh; split <;> rfl
@[simp] theorem addHigh_recovery (n : Nat) (s : State) : (addHigh n s).recovery = s.recovery := by unfold addHigh; split <;> rfl
@[simp] theorem addHigh_latch (n : Nat) (s : State) : (addHigh n s).latch = s.latch := by unfold addHigh; split <;> rfl
@[simp] theorem addHigh_mask (n : Nat) (s : State) : (addHigh n s).mask = s.mask := by unfold addHigh; split <;> rfl
@[simp] theorem addHigh_straddling (n : Nat) (s : State) : (addHigh n s).straddling = s.straddling := by unfold addHigh; split <;> rfl
@[simp] theorem addHigh_reply (n : Nat) (s : State) : (addHigh n s).reply = s.reply := by unfold addHigh; split <;> rfl
@[simp] theorem addHigh_fresh (n : Nat) (s : State) : (addHigh n s).fresh = s.fresh := by unfold addHigh; split <;> rfl
@[simp] theorem addHigh_pending (n : Nat) (s : State) : (addHigh n s).pending = s.pending := by unfold addHigh; split <;> rfl

/-- `addHigh` writes nothing else. -/
theorem addHigh_writes (n : Nat) (s : State) :
    addHigh n s = { s with
      highTime := (addHigh n s).highTime } := by
  apply State.ext <;> simp

/-! ### `knownFrameEnd` -/

@[simp] theorem knownFrameEnd_resetHeld (s : State) : (knownFrameEnd s).resetHeld = s.resetHeld := by unfold knownFrameEnd; dsimp only; split <;> rfl
@[simp] theorem knownFrameEnd_oneTime (s : State) : (knownFrameEnd s).oneTime = s.oneTime := by unfold knownFrameEnd; dsimp only; split <;> rfl
@[simp] theorem knownFrameEnd_writing (s : State) : (knownFrameEnd s).writing = s.writing := by unfold knownFrameEnd; dsimp only; split <;> rfl
@[simp] theorem knownFrameEnd_written (s : State) : (knownFrameEnd s).written = s.written := by unfold knownFrameEnd; dsimp only; split <;> rfl
@[simp] theorem knownFrameEnd_address (s : State) : (knownFrameEnd s).address = s.address := by unfold knownFrameEnd; dsimp only; split <;> rfl
@[simp] theorem knownFrameEnd_record (s : State) : (knownFrameEnd s).record = s.record := by unfold knownFrameEnd; dsimp only; split <;> rfl
@[simp] theorem knownFrameEnd_cause (s : State) : (knownFrameEnd s).cause = s.cause := by unfold knownFrameEnd; dsimp only; split <;> rfl
@[simp] theorem knownFrameEnd_mode (s : State) : (knownFrameEnd s).mode = s.mode := by unfold knownFrameEnd; dsimp only; split <;> rfl
@[simp] theorem knownFrameEnd_faultCause (s : State) : (knownFrameEnd s).faultCause = s.faultCause := by unfold knownFrameEnd; dsimp only; split <;> rfl
@[simp] theorem knownFrameEnd_voidRun (s : State) : (knownFrameEnd s).voidRun = s.voidRun := by unfold knownFrameEnd; dsimp only; split <;> rfl
@[simp] theorem knownFrameEnd_replicas (s : State) : (knownFrameEnd s).replicas = s.replicas := by unfold knownFrameEnd; dsimp only; split <;> rfl
@[simp] theorem knownFrameEnd_holding (s : State) : (knownFrameEnd s).holding = s.holding := by unfold knownFrameEnd; dsimp only; split <;> rfl
@[simp] theorem knownFrameEnd_ownAge (s : State) : (knownFrameEnd s).ownAge = s.ownAge := by unfold knownFrameEnd; dsimp only; split <;> rfl
@[simp] theorem knownFrameEnd_requested (s : State) : (knownFrameEnd s).requested = s.requested := by unfold knownFrameEnd; dsimp only; split <;> rfl
@[simp] theorem knownFrameEnd_target (s : State) : (knownFrameEnd s).target = s.target := by unfold knownFrameEnd; dsimp only; split <;> rfl
@[simp] theorem knownFrameEnd_suppression (s : State) : (knownFrameEnd s).suppression = s.suppression := by unfold knownFrameEnd; dsimp only; split <;> rfl
@[simp] theorem knownFrameEnd_opening (s : State) : (knownFrameEnd s).opening = s.opening := by unfold knownFrameEnd; dsimp only; split <;> rfl
@[simp] theorem knownFrameEnd_frame (s : State) : (knownFrameEnd s).frame = s.frame := by unfold knownFrameEnd; dsimp only; split <;> rfl
@[simp] theorem knownFrameEnd_lineLow (s : State) : (knownFrameEnd s).lineLow = s.lineLow := by unfold knownFrameEnd; dsimp only; split <;> rfl
@[simp] theorem knownFrameEnd_wakeArmed (s : State) : (knownFrameEnd s).wakeArmed = s.wakeArmed := by unfold knownFrameEnd; dsimp only; split <;> rfl
@[simp] theorem knownFrameEnd_renewTimer (s : State) : (knownFrameEnd s).renewTimer = s.renewTimer := by unfold knownFrameEnd; dsimp only; split <;> rfl
@[simp] theorem knownFrameEnd_windowCap (s : State) : (knownFrameEnd s).windowCap = s.windowCap := by unfold knownFrameEnd; dsimp only; split <;> rfl
@[simp] theorem knownFrameEnd_muteWait (s : State) : (knownFrameEnd s).muteWait = s.muteWait := by unfold knownFrameEnd; dsimp only; split <;> rfl
@[simp] theorem knownFrameEnd_level (s : State) : (knownFrameEnd s).level = s.level := by unfold knownFrameEnd; dsimp only; split <;> rfl
@[simp] theorem knownFrameEnd_rampTarget (s : State) : (knownFrameEnd s).rampTarget = s.rampTarget := by unfold knownFrameEnd; dsimp only; split <;> rfl
@[simp] theorem knownFrameEnd_settle (s : State) : (knownFrameEnd s).settle = s.settle := by unfold knownFrameEnd; dsimp only; split <;> rfl
@[simp] theorem knownFrameEnd_overdrawRun (s : State) : (knownFrameEnd s).overdrawRun = s.overdrawRun := by unfold knownFrameEnd; dsimp only; split <;> rfl
@[simp] theorem knownFrameEnd_underRun (s : State) : (knownFrameEnd s).underRun = s.underRun := by unfold knownFrameEnd; dsimp only; split <;> rfl
@[simp] theorem knownFrameEnd_under (s : State) : (knownFrameEnd s).under = s.under := by unfold knownFrameEnd; dsimp only; split <;> rfl
@[simp] theorem knownFrameEnd_supplyLow (s : State) : (knownFrameEnd s).supplyLow = s.supplyLow := by unfold knownFrameEnd; dsimp only; split <;> rfl
@[simp] theorem knownFrameEnd_droopHold (s : State) : (knownFrameEnd s).droopHold = s.droopHold := by unfold knownFrameEnd; dsimp only; split <;> rfl
@[simp] theorem knownFrameEnd_recovery (s : State) : (knownFrameEnd s).recovery = s.recovery := by unfold knownFrameEnd; dsimp only; split <;> rfl
@[simp] theorem knownFrameEnd_latch (s : State) : (knownFrameEnd s).latch = s.latch := by unfold knownFrameEnd; dsimp only; split <;> rfl
@[simp] theorem knownFrameEnd_mask (s : State) : (knownFrameEnd s).mask = s.mask := by unfold knownFrameEnd; dsimp only; split <;> rfl
@[simp] theorem knownFrameEnd_straddling (s : State) : (knownFrameEnd s).straddling = s.straddling := by unfold knownFrameEnd; dsimp only; split <;> rfl
@[simp] theorem knownFrameEnd_reply (s : State) : (knownFrameEnd s).reply = s.reply := by unfold knownFrameEnd; dsimp only; split <;> rfl
@[simp] theorem knownFrameEnd_fresh (s : State) : (knownFrameEnd s).fresh = s.fresh := by unfold knownFrameEnd; dsimp only; split <;> rfl
@[simp] theorem knownFrameEnd_pending (s : State) : (knownFrameEnd s).pending = s.pending := by unfold knownFrameEnd; dsimp only; split <;> rfl

/-- `knownFrameEnd` writes nothing else. -/
theorem knownFrameEnd_writes (s : State) :
    knownFrameEnd s = { s with
      outbox := (knownFrameEnd s).outbox, censusRetry := (knownFrameEnd s).censusRetry, synchronised :=
      (knownFrameEnd s).synchronised, joinCondition := (knownFrameEnd s).joinCondition, highTime :=
      (knownFrameEnd s).highTime } := by
  apply State.ext <;> simp

/-! ### `eighthFailure` -/

@[simp] theorem eighthFailure_resetHeld (k : Kind) (i : Intent) (s : State) : (eighthFailure k i s).resetHeld = s.resetHeld := by cases k <;> simp [eighthFailure]; try (split <;> rfl)
@[simp] theorem eighthFailure_oneTime (k : Kind) (i : Intent) (s : State) : (eighthFailure k i s).oneTime = s.oneTime := by cases k <;> simp [eighthFailure]; try (split <;> rfl)
@[simp] theorem eighthFailure_writing (k : Kind) (i : Intent) (s : State) : (eighthFailure k i s).writing = s.writing := by cases k <;> simp [eighthFailure]; try (split <;> rfl)
@[simp] theorem eighthFailure_written (k : Kind) (i : Intent) (s : State) : (eighthFailure k i s).written = s.written := by cases k <;> simp [eighthFailure]; try (split <;> rfl)
@[simp] theorem eighthFailure_address (k : Kind) (i : Intent) (s : State) : (eighthFailure k i s).address = s.address := by cases k <;> simp [eighthFailure]; try (split <;> rfl)
@[simp] theorem eighthFailure_record (k : Kind) (i : Intent) (s : State) : (eighthFailure k i s).record = s.record := by cases k <;> simp [eighthFailure]; try (split <;> rfl)
@[simp] theorem eighthFailure_cause (k : Kind) (i : Intent) (s : State) : (eighthFailure k i s).cause = s.cause := by cases k <;> simp [eighthFailure]; try (split <;> rfl)
@[simp] theorem eighthFailure_mode (k : Kind) (i : Intent) (s : State) : (eighthFailure k i s).mode = s.mode := by cases k <;> simp [eighthFailure]; try (split <;> rfl)
@[simp] theorem eighthFailure_faultCause (k : Kind) (i : Intent) (s : State) : (eighthFailure k i s).faultCause = s.faultCause := by cases k <;> simp [eighthFailure]; try (split <;> rfl)
@[simp] theorem eighthFailure_voidRun (k : Kind) (i : Intent) (s : State) : (eighthFailure k i s).voidRun = s.voidRun := by cases k <;> simp [eighthFailure]; try (split <;> rfl)
@[simp] theorem eighthFailure_replicas (k : Kind) (i : Intent) (s : State) : (eighthFailure k i s).replicas = s.replicas := by cases k <;> simp [eighthFailure]; try (split <;> rfl)
@[simp] theorem eighthFailure_holding (k : Kind) (i : Intent) (s : State) : (eighthFailure k i s).holding = s.holding := by cases k <;> simp [eighthFailure]; try (split <;> rfl)
@[simp] theorem eighthFailure_ownAge (k : Kind) (i : Intent) (s : State) : (eighthFailure k i s).ownAge = s.ownAge := by cases k <;> simp [eighthFailure]; try (split <;> rfl)
@[simp] theorem eighthFailure_requested (k : Kind) (i : Intent) (s : State) : (eighthFailure k i s).requested = s.requested := by cases k <;> simp [eighthFailure]; try (split <;> rfl)
@[simp] theorem eighthFailure_target (k : Kind) (i : Intent) (s : State) : (eighthFailure k i s).target = s.target := by cases k <;> simp [eighthFailure]; try (split <;> rfl)
@[simp] theorem eighthFailure_opening (k : Kind) (i : Intent) (s : State) : (eighthFailure k i s).opening = s.opening := by cases k <;> simp [eighthFailure]; try (split <;> rfl)
@[simp] theorem eighthFailure_frame (k : Kind) (i : Intent) (s : State) : (eighthFailure k i s).frame = s.frame := by cases k <;> simp [eighthFailure]; try (split <;> rfl)
@[simp] theorem eighthFailure_synchronised (k : Kind) (i : Intent) (s : State) : (eighthFailure k i s).synchronised = s.synchronised := by cases k <;> simp [eighthFailure]; try (split <;> rfl)
@[simp] theorem eighthFailure_joinCondition (k : Kind) (i : Intent) (s : State) : (eighthFailure k i s).joinCondition = s.joinCondition := by cases k <;> simp [eighthFailure]; try (split <;> rfl)
@[simp] theorem eighthFailure_highTime (k : Kind) (i : Intent) (s : State) : (eighthFailure k i s).highTime = s.highTime := by cases k <;> simp [eighthFailure]; try (split <;> rfl)
@[simp] theorem eighthFailure_lineLow (k : Kind) (i : Intent) (s : State) : (eighthFailure k i s).lineLow = s.lineLow := by cases k <;> simp [eighthFailure]; try (split <;> rfl)
@[simp] theorem eighthFailure_wakeArmed (k : Kind) (i : Intent) (s : State) : (eighthFailure k i s).wakeArmed = s.wakeArmed := by cases k <;> simp [eighthFailure]; try (split <;> rfl)
@[simp] theorem eighthFailure_renewTimer (k : Kind) (i : Intent) (s : State) : (eighthFailure k i s).renewTimer = s.renewTimer := by cases k <;> simp [eighthFailure]; try (split <;> rfl)
@[simp] theorem eighthFailure_windowCap (k : Kind) (i : Intent) (s : State) : (eighthFailure k i s).windowCap = s.windowCap := by cases k <;> simp [eighthFailure]; try (split <;> rfl)
@[simp] theorem eighthFailure_muteWait (k : Kind) (i : Intent) (s : State) : (eighthFailure k i s).muteWait = s.muteWait := by cases k <;> simp [eighthFailure]; try (split <;> rfl)
@[simp] theorem eighthFailure_level (k : Kind) (i : Intent) (s : State) : (eighthFailure k i s).level = s.level := by cases k <;> simp [eighthFailure]; try (split <;> rfl)
@[simp] theorem eighthFailure_rampTarget (k : Kind) (i : Intent) (s : State) : (eighthFailure k i s).rampTarget = s.rampTarget := by cases k <;> simp [eighthFailure]; try (split <;> rfl)
@[simp] theorem eighthFailure_settle (k : Kind) (i : Intent) (s : State) : (eighthFailure k i s).settle = s.settle := by cases k <;> simp [eighthFailure]; try (split <;> rfl)
@[simp] theorem eighthFailure_overdrawRun (k : Kind) (i : Intent) (s : State) : (eighthFailure k i s).overdrawRun = s.overdrawRun := by cases k <;> simp [eighthFailure]; try (split <;> rfl)
@[simp] theorem eighthFailure_underRun (k : Kind) (i : Intent) (s : State) : (eighthFailure k i s).underRun = s.underRun := by cases k <;> simp [eighthFailure]; try (split <;> rfl)
@[simp] theorem eighthFailure_under (k : Kind) (i : Intent) (s : State) : (eighthFailure k i s).under = s.under := by cases k <;> simp [eighthFailure]; try (split <;> rfl)
@[simp] theorem eighthFailure_supplyLow (k : Kind) (i : Intent) (s : State) : (eighthFailure k i s).supplyLow = s.supplyLow := by cases k <;> simp [eighthFailure]; try (split <;> rfl)
@[simp] theorem eighthFailure_droopHold (k : Kind) (i : Intent) (s : State) : (eighthFailure k i s).droopHold = s.droopHold := by cases k <;> simp [eighthFailure]; try (split <;> rfl)
@[simp] theorem eighthFailure_recovery (k : Kind) (i : Intent) (s : State) : (eighthFailure k i s).recovery = s.recovery := by cases k <;> simp [eighthFailure]; try (split <;> rfl)
@[simp] theorem eighthFailure_mask (k : Kind) (i : Intent) (s : State) : (eighthFailure k i s).mask = s.mask := by cases k <;> simp [eighthFailure]; try (split <;> rfl)
@[simp] theorem eighthFailure_straddling (k : Kind) (i : Intent) (s : State) : (eighthFailure k i s).straddling = s.straddling := by cases k <;> simp [eighthFailure]; try (split <;> rfl)
@[simp] theorem eighthFailure_reply (k : Kind) (i : Intent) (s : State) : (eighthFailure k i s).reply = s.reply := by cases k <;> simp [eighthFailure]; try (split <;> rfl)
@[simp] theorem eighthFailure_fresh (k : Kind) (i : Intent) (s : State) : (eighthFailure k i s).fresh = s.fresh := by cases k <;> simp [eighthFailure]; try (split <;> rfl)
@[simp] theorem eighthFailure_pending (k : Kind) (i : Intent) (s : State) : (eighthFailure k i s).pending = s.pending := by cases k <;> simp [eighthFailure]; try (split <;> rfl)

/-- `eighthFailure` writes nothing else. -/
theorem eighthFailure_writes (k : Kind) (i : Intent) (s : State) :
    eighthFailure k i s = { s with
      suppression := (eighthFailure k i s).suppression, outbox := (eighthFailure k i s).outbox,
      censusRetry := (eighthFailure k i s).censusRetry, latch := (eighthFailure k i s).latch } := by
  apply State.ext <;> simp

/-! ### `returnIntent` -/

@[simp] theorem returnIntent_resetHeld (k : Kind) (i : Intent) (s : State) : (returnIntent k i s).resetHeld = s.resetHeld := by unfold returnIntent; dsimp only; split <;> simp
@[simp] theorem returnIntent_oneTime (k : Kind) (i : Intent) (s : State) : (returnIntent k i s).oneTime = s.oneTime := by unfold returnIntent; dsimp only; split <;> simp
@[simp] theorem returnIntent_writing (k : Kind) (i : Intent) (s : State) : (returnIntent k i s).writing = s.writing := by unfold returnIntent; dsimp only; split <;> simp
@[simp] theorem returnIntent_written (k : Kind) (i : Intent) (s : State) : (returnIntent k i s).written = s.written := by unfold returnIntent; dsimp only; split <;> simp
@[simp] theorem returnIntent_address (k : Kind) (i : Intent) (s : State) : (returnIntent k i s).address = s.address := by unfold returnIntent; dsimp only; split <;> simp
@[simp] theorem returnIntent_record (k : Kind) (i : Intent) (s : State) : (returnIntent k i s).record = s.record := by unfold returnIntent; dsimp only; split <;> simp
@[simp] theorem returnIntent_cause (k : Kind) (i : Intent) (s : State) : (returnIntent k i s).cause = s.cause := by unfold returnIntent; dsimp only; split <;> simp
@[simp] theorem returnIntent_mode (k : Kind) (i : Intent) (s : State) : (returnIntent k i s).mode = s.mode := by unfold returnIntent; dsimp only; split <;> simp
@[simp] theorem returnIntent_faultCause (k : Kind) (i : Intent) (s : State) : (returnIntent k i s).faultCause = s.faultCause := by unfold returnIntent; dsimp only; split <;> simp
@[simp] theorem returnIntent_voidRun (k : Kind) (i : Intent) (s : State) : (returnIntent k i s).voidRun = s.voidRun := by unfold returnIntent; dsimp only; split <;> simp
@[simp] theorem returnIntent_replicas (k : Kind) (i : Intent) (s : State) : (returnIntent k i s).replicas = s.replicas := by unfold returnIntent; dsimp only; split <;> simp
@[simp] theorem returnIntent_holding (k : Kind) (i : Intent) (s : State) : (returnIntent k i s).holding = s.holding := by unfold returnIntent; dsimp only; split <;> simp
@[simp] theorem returnIntent_ownAge (k : Kind) (i : Intent) (s : State) : (returnIntent k i s).ownAge = s.ownAge := by unfold returnIntent; dsimp only; split <;> simp
@[simp] theorem returnIntent_requested (k : Kind) (i : Intent) (s : State) : (returnIntent k i s).requested = s.requested := by unfold returnIntent; dsimp only; split <;> simp
@[simp] theorem returnIntent_target (k : Kind) (i : Intent) (s : State) : (returnIntent k i s).target = s.target := by unfold returnIntent; dsimp only; split <;> simp
@[simp] theorem returnIntent_opening (k : Kind) (i : Intent) (s : State) : (returnIntent k i s).opening = s.opening := by unfold returnIntent; dsimp only; split <;> simp
@[simp] theorem returnIntent_frame (k : Kind) (i : Intent) (s : State) : (returnIntent k i s).frame = s.frame := by unfold returnIntent; dsimp only; split <;> simp
@[simp] theorem returnIntent_synchronised (k : Kind) (i : Intent) (s : State) : (returnIntent k i s).synchronised = s.synchronised := by unfold returnIntent; dsimp only; split <;> simp
@[simp] theorem returnIntent_joinCondition (k : Kind) (i : Intent) (s : State) : (returnIntent k i s).joinCondition = s.joinCondition := by unfold returnIntent; dsimp only; split <;> simp
@[simp] theorem returnIntent_highTime (k : Kind) (i : Intent) (s : State) : (returnIntent k i s).highTime = s.highTime := by unfold returnIntent; dsimp only; split <;> simp
@[simp] theorem returnIntent_lineLow (k : Kind) (i : Intent) (s : State) : (returnIntent k i s).lineLow = s.lineLow := by unfold returnIntent; dsimp only; split <;> simp
@[simp] theorem returnIntent_wakeArmed (k : Kind) (i : Intent) (s : State) : (returnIntent k i s).wakeArmed = s.wakeArmed := by unfold returnIntent; dsimp only; split <;> simp
@[simp] theorem returnIntent_renewTimer (k : Kind) (i : Intent) (s : State) : (returnIntent k i s).renewTimer = s.renewTimer := by unfold returnIntent; dsimp only; split <;> simp
@[simp] theorem returnIntent_windowCap (k : Kind) (i : Intent) (s : State) : (returnIntent k i s).windowCap = s.windowCap := by unfold returnIntent; dsimp only; split <;> simp
@[simp] theorem returnIntent_muteWait (k : Kind) (i : Intent) (s : State) : (returnIntent k i s).muteWait = s.muteWait := by unfold returnIntent; dsimp only; split <;> simp
@[simp] theorem returnIntent_level (k : Kind) (i : Intent) (s : State) : (returnIntent k i s).level = s.level := by unfold returnIntent; dsimp only; split <;> simp
@[simp] theorem returnIntent_rampTarget (k : Kind) (i : Intent) (s : State) : (returnIntent k i s).rampTarget = s.rampTarget := by unfold returnIntent; dsimp only; split <;> simp
@[simp] theorem returnIntent_settle (k : Kind) (i : Intent) (s : State) : (returnIntent k i s).settle = s.settle := by unfold returnIntent; dsimp only; split <;> simp
@[simp] theorem returnIntent_overdrawRun (k : Kind) (i : Intent) (s : State) : (returnIntent k i s).overdrawRun = s.overdrawRun := by unfold returnIntent; dsimp only; split <;> simp
@[simp] theorem returnIntent_underRun (k : Kind) (i : Intent) (s : State) : (returnIntent k i s).underRun = s.underRun := by unfold returnIntent; dsimp only; split <;> simp
@[simp] theorem returnIntent_under (k : Kind) (i : Intent) (s : State) : (returnIntent k i s).under = s.under := by unfold returnIntent; dsimp only; split <;> simp
@[simp] theorem returnIntent_supplyLow (k : Kind) (i : Intent) (s : State) : (returnIntent k i s).supplyLow = s.supplyLow := by unfold returnIntent; dsimp only; split <;> simp
@[simp] theorem returnIntent_droopHold (k : Kind) (i : Intent) (s : State) : (returnIntent k i s).droopHold = s.droopHold := by unfold returnIntent; dsimp only; split <;> simp
@[simp] theorem returnIntent_recovery (k : Kind) (i : Intent) (s : State) : (returnIntent k i s).recovery = s.recovery := by unfold returnIntent; dsimp only; split <;> simp
@[simp] theorem returnIntent_mask (k : Kind) (i : Intent) (s : State) : (returnIntent k i s).mask = s.mask := by unfold returnIntent; dsimp only; split <;> simp
@[simp] theorem returnIntent_straddling (k : Kind) (i : Intent) (s : State) : (returnIntent k i s).straddling = s.straddling := by unfold returnIntent; dsimp only; split <;> simp
@[simp] theorem returnIntent_reply (k : Kind) (i : Intent) (s : State) : (returnIntent k i s).reply = s.reply := by unfold returnIntent; dsimp only; split <;> simp
@[simp] theorem returnIntent_fresh (k : Kind) (i : Intent) (s : State) : (returnIntent k i s).fresh = s.fresh := by unfold returnIntent; dsimp only; split <;> simp
@[simp] theorem returnIntent_pending (k : Kind) (i : Intent) (s : State) : (returnIntent k i s).pending = s.pending := by unfold returnIntent; dsimp only; split <;> simp

/-- `returnIntent` writes nothing else. -/
theorem returnIntent_writes (k : Kind) (i : Intent) (s : State) :
    returnIntent k i s = { s with
      suppression := (returnIntent k i s).suppression, outbox := (returnIntent k i s).outbox, censusRetry
      := (returnIntent k i s).censusRetry, latch := (returnIntent k i s).latch } := by
  apply State.ext <;> simp

/-! ### `takeOutcome` -/

@[simp] theorem takeOutcome_resetHeld (out : FrameOutcome) (s : State) : (takeOutcome out s).resetHeld = s.resetHeld := by unfold takeOutcome; dsimp only; split; rfl; split; rfl; split <;> simp
@[simp] theorem takeOutcome_oneTime (out : FrameOutcome) (s : State) : (takeOutcome out s).oneTime = s.oneTime := by unfold takeOutcome; dsimp only; split; rfl; split; rfl; split <;> simp
@[simp] theorem takeOutcome_writing (out : FrameOutcome) (s : State) : (takeOutcome out s).writing = s.writing := by unfold takeOutcome; dsimp only; split; rfl; split; rfl; split <;> simp
@[simp] theorem takeOutcome_written (out : FrameOutcome) (s : State) : (takeOutcome out s).written = s.written := by unfold takeOutcome; dsimp only; split; rfl; split; rfl; split <;> simp
@[simp] theorem takeOutcome_address (out : FrameOutcome) (s : State) : (takeOutcome out s).address = s.address := by unfold takeOutcome; dsimp only; split; rfl; split; rfl; split <;> simp
@[simp] theorem takeOutcome_record (out : FrameOutcome) (s : State) : (takeOutcome out s).record = s.record := by unfold takeOutcome; dsimp only; split; rfl; split; rfl; split <;> simp
@[simp] theorem takeOutcome_cause (out : FrameOutcome) (s : State) : (takeOutcome out s).cause = s.cause := by unfold takeOutcome; dsimp only; split; rfl; split; rfl; split <;> simp
@[simp] theorem takeOutcome_mode (out : FrameOutcome) (s : State) : (takeOutcome out s).mode = s.mode := by unfold takeOutcome; dsimp only; split; rfl; split; rfl; split <;> simp
@[simp] theorem takeOutcome_faultCause (out : FrameOutcome) (s : State) : (takeOutcome out s).faultCause = s.faultCause := by unfold takeOutcome; dsimp only; split; rfl; split; rfl; split <;> simp
@[simp] theorem takeOutcome_voidRun (out : FrameOutcome) (s : State) : (takeOutcome out s).voidRun = s.voidRun := by unfold takeOutcome; dsimp only; split; rfl; split; rfl; split <;> simp
@[simp] theorem takeOutcome_replicas (out : FrameOutcome) (s : State) : (takeOutcome out s).replicas = s.replicas := by unfold takeOutcome; dsimp only; split; rfl; split; rfl; split <;> simp
@[simp] theorem takeOutcome_holding (out : FrameOutcome) (s : State) : (takeOutcome out s).holding = s.holding := by unfold takeOutcome; dsimp only; split; rfl; split; rfl; split <;> simp
@[simp] theorem takeOutcome_ownAge (out : FrameOutcome) (s : State) : (takeOutcome out s).ownAge = s.ownAge := by unfold takeOutcome; dsimp only; split; rfl; split; rfl; split <;> simp
@[simp] theorem takeOutcome_requested (out : FrameOutcome) (s : State) : (takeOutcome out s).requested = s.requested := by unfold takeOutcome; dsimp only; split; rfl; split; rfl; split <;> simp
@[simp] theorem takeOutcome_target (out : FrameOutcome) (s : State) : (takeOutcome out s).target = s.target := by unfold takeOutcome; dsimp only; split; rfl; split; rfl; split <;> simp
@[simp] theorem takeOutcome_opening (out : FrameOutcome) (s : State) : (takeOutcome out s).opening = s.opening := by unfold takeOutcome; dsimp only; split; rfl; split; rfl; split <;> simp
@[simp] theorem takeOutcome_frame (out : FrameOutcome) (s : State) : (takeOutcome out s).frame = s.frame := by unfold takeOutcome; dsimp only; split; rfl; split; rfl; split <;> simp
@[simp] theorem takeOutcome_synchronised (out : FrameOutcome) (s : State) : (takeOutcome out s).synchronised = s.synchronised := by unfold takeOutcome; dsimp only; split; rfl; split; rfl; split <;> simp
@[simp] theorem takeOutcome_joinCondition (out : FrameOutcome) (s : State) : (takeOutcome out s).joinCondition = s.joinCondition := by unfold takeOutcome; dsimp only; split; rfl; split; rfl; split <;> simp
@[simp] theorem takeOutcome_highTime (out : FrameOutcome) (s : State) : (takeOutcome out s).highTime = s.highTime := by unfold takeOutcome; dsimp only; split; rfl; split; rfl; split <;> simp
@[simp] theorem takeOutcome_lineLow (out : FrameOutcome) (s : State) : (takeOutcome out s).lineLow = s.lineLow := by unfold takeOutcome; dsimp only; split; rfl; split; rfl; split <;> simp
@[simp] theorem takeOutcome_wakeArmed (out : FrameOutcome) (s : State) : (takeOutcome out s).wakeArmed = s.wakeArmed := by unfold takeOutcome; dsimp only; split; rfl; split; rfl; split <;> simp
@[simp] theorem takeOutcome_renewTimer (out : FrameOutcome) (s : State) : (takeOutcome out s).renewTimer = s.renewTimer := by unfold takeOutcome; dsimp only; split; rfl; split; rfl; split <;> simp
@[simp] theorem takeOutcome_windowCap (out : FrameOutcome) (s : State) : (takeOutcome out s).windowCap = s.windowCap := by unfold takeOutcome; dsimp only; split; rfl; split; rfl; split <;> simp
@[simp] theorem takeOutcome_muteWait (out : FrameOutcome) (s : State) : (takeOutcome out s).muteWait = s.muteWait := by unfold takeOutcome; dsimp only; split; rfl; split; rfl; split <;> simp
@[simp] theorem takeOutcome_level (out : FrameOutcome) (s : State) : (takeOutcome out s).level = s.level := by unfold takeOutcome; dsimp only; split; rfl; split; rfl; split <;> simp
@[simp] theorem takeOutcome_rampTarget (out : FrameOutcome) (s : State) : (takeOutcome out s).rampTarget = s.rampTarget := by unfold takeOutcome; dsimp only; split; rfl; split; rfl; split <;> simp
@[simp] theorem takeOutcome_settle (out : FrameOutcome) (s : State) : (takeOutcome out s).settle = s.settle := by unfold takeOutcome; dsimp only; split; rfl; split; rfl; split <;> simp
@[simp] theorem takeOutcome_overdrawRun (out : FrameOutcome) (s : State) : (takeOutcome out s).overdrawRun = s.overdrawRun := by unfold takeOutcome; dsimp only; split; rfl; split; rfl; split <;> simp
@[simp] theorem takeOutcome_underRun (out : FrameOutcome) (s : State) : (takeOutcome out s).underRun = s.underRun := by unfold takeOutcome; dsimp only; split; rfl; split; rfl; split <;> simp
@[simp] theorem takeOutcome_under (out : FrameOutcome) (s : State) : (takeOutcome out s).under = s.under := by unfold takeOutcome; dsimp only; split; rfl; split; rfl; split <;> simp
@[simp] theorem takeOutcome_supplyLow (out : FrameOutcome) (s : State) : (takeOutcome out s).supplyLow = s.supplyLow := by unfold takeOutcome; dsimp only; split; rfl; split; rfl; split <;> simp
@[simp] theorem takeOutcome_droopHold (out : FrameOutcome) (s : State) : (takeOutcome out s).droopHold = s.droopHold := by unfold takeOutcome; dsimp only; split; rfl; split; rfl; split <;> simp
@[simp] theorem takeOutcome_recovery (out : FrameOutcome) (s : State) : (takeOutcome out s).recovery = s.recovery := by unfold takeOutcome; dsimp only; split; rfl; split; rfl; split <;> simp
@[simp] theorem takeOutcome_mask (out : FrameOutcome) (s : State) : (takeOutcome out s).mask = s.mask := by unfold takeOutcome; dsimp only; split; rfl; split; rfl; split <;> simp
@[simp] theorem takeOutcome_straddling (out : FrameOutcome) (s : State) : (takeOutcome out s).straddling = s.straddling := by unfold takeOutcome; dsimp only; split; rfl; split; rfl; split <;> simp
@[simp] theorem takeOutcome_reply (out : FrameOutcome) (s : State) : (takeOutcome out s).reply = s.reply := by unfold takeOutcome; dsimp only; split; rfl; split; rfl; split <;> simp
@[simp] theorem takeOutcome_fresh (out : FrameOutcome) (s : State) : (takeOutcome out s).fresh = s.fresh := by unfold takeOutcome; dsimp only; split; rfl; split; rfl; split <;> simp
@[simp] theorem takeOutcome_pending (out : FrameOutcome) (s : State) : (takeOutcome out s).pending = s.pending := by unfold takeOutcome; dsimp only; split; rfl; split; rfl; split <;> simp

/-- `takeOutcome` writes nothing else. -/
theorem takeOutcome_writes (out : FrameOutcome) (s : State) :
    takeOutcome out s = { s with
      suppression := (takeOutcome out s).suppression, outbox := (takeOutcome out s).outbox, censusRetry :=
      (takeOutcome out s).censusRetry, latch := (takeOutcome out s).latch } := by
  apply State.ext <;> simp

/-! ### `breakRecognised` -/

@[simp] theorem breakRecognised_resetHeld (s : State) : (breakRecognised s).resetHeld = s.resetHeld := by unfold breakRecognised; split; rfl; split <;> simp
@[simp] theorem breakRecognised_oneTime (s : State) : (breakRecognised s).oneTime = s.oneTime := by unfold breakRecognised; split; rfl; split <;> simp
@[simp] theorem breakRecognised_writing (s : State) : (breakRecognised s).writing = s.writing := by unfold breakRecognised; split; rfl; split <;> simp
@[simp] theorem breakRecognised_written (s : State) : (breakRecognised s).written = s.written := by unfold breakRecognised; split; rfl; split <;> simp
@[simp] theorem breakRecognised_address (s : State) : (breakRecognised s).address = s.address := by unfold breakRecognised; split; rfl; split <;> simp
@[simp] theorem breakRecognised_record (s : State) : (breakRecognised s).record = s.record := by unfold breakRecognised; split; rfl; split <;> simp
@[simp] theorem breakRecognised_cause (s : State) : (breakRecognised s).cause = s.cause := by unfold breakRecognised; split; rfl; split <;> simp
@[simp] theorem breakRecognised_mode (s : State) : (breakRecognised s).mode = s.mode := by unfold breakRecognised; split; rfl; split <;> simp
@[simp] theorem breakRecognised_faultCause (s : State) : (breakRecognised s).faultCause = s.faultCause := by unfold breakRecognised; split; rfl; split <;> simp
@[simp] theorem breakRecognised_voidRun (s : State) : (breakRecognised s).voidRun = s.voidRun := by unfold breakRecognised; split; rfl; split <;> simp
@[simp] theorem breakRecognised_replicas (s : State) : (breakRecognised s).replicas = s.replicas := by unfold breakRecognised; split; rfl; split <;> simp
@[simp] theorem breakRecognised_holding (s : State) : (breakRecognised s).holding = s.holding := by unfold breakRecognised; split; rfl; split <;> simp
@[simp] theorem breakRecognised_ownAge (s : State) : (breakRecognised s).ownAge = s.ownAge := by unfold breakRecognised; split; rfl; split <;> simp
@[simp] theorem breakRecognised_requested (s : State) : (breakRecognised s).requested = s.requested := by unfold breakRecognised; split; rfl; split <;> simp
@[simp] theorem breakRecognised_target (s : State) : (breakRecognised s).target = s.target := by unfold breakRecognised; split; rfl; split <;> simp
@[simp] theorem breakRecognised_synchronised (s : State) : (breakRecognised s).synchronised = s.synchronised := by unfold breakRecognised; split; rfl; split <;> simp
@[simp] theorem breakRecognised_joinCondition (s : State) : (breakRecognised s).joinCondition = s.joinCondition := by unfold breakRecognised; split; rfl; split <;> simp
@[simp] theorem breakRecognised_wakeArmed (s : State) : (breakRecognised s).wakeArmed = s.wakeArmed := by unfold breakRecognised; split; rfl; split <;> simp
@[simp] theorem breakRecognised_renewTimer (s : State) : (breakRecognised s).renewTimer = s.renewTimer := by unfold breakRecognised; split; rfl; split <;> simp
@[simp] theorem breakRecognised_windowCap (s : State) : (breakRecognised s).windowCap = s.windowCap := by unfold breakRecognised; split; rfl; split <;> simp
@[simp] theorem breakRecognised_muteWait (s : State) : (breakRecognised s).muteWait = s.muteWait := by unfold breakRecognised; split; rfl; split <;> simp
@[simp] theorem breakRecognised_level (s : State) : (breakRecognised s).level = s.level := by unfold breakRecognised; split; rfl; split <;> simp
@[simp] theorem breakRecognised_rampTarget (s : State) : (breakRecognised s).rampTarget = s.rampTarget := by unfold breakRecognised; split; rfl; split <;> simp
@[simp] theorem breakRecognised_settle (s : State) : (breakRecognised s).settle = s.settle := by unfold breakRecognised; split; rfl; split <;> simp
@[simp] theorem breakRecognised_overdrawRun (s : State) : (breakRecognised s).overdrawRun = s.overdrawRun := by unfold breakRecognised; split; rfl; split <;> simp
@[simp] theorem breakRecognised_underRun (s : State) : (breakRecognised s).underRun = s.underRun := by unfold breakRecognised; split; rfl; split <;> simp
@[simp] theorem breakRecognised_under (s : State) : (breakRecognised s).under = s.under := by unfold breakRecognised; split; rfl; split <;> simp
@[simp] theorem breakRecognised_supplyLow (s : State) : (breakRecognised s).supplyLow = s.supplyLow := by unfold breakRecognised; split; rfl; split <;> simp
@[simp] theorem breakRecognised_droopHold (s : State) : (breakRecognised s).droopHold = s.droopHold := by unfold breakRecognised; split; rfl; split <;> simp
@[simp] theorem breakRecognised_recovery (s : State) : (breakRecognised s).recovery = s.recovery := by unfold breakRecognised; split; rfl; split <;> simp
@[simp] theorem breakRecognised_mask (s : State) : (breakRecognised s).mask = s.mask := by unfold breakRecognised; split; rfl; split <;> simp
@[simp] theorem breakRecognised_straddling (s : State) : (breakRecognised s).straddling = s.straddling := by unfold breakRecognised; split; rfl; split <;> simp
@[simp] theorem breakRecognised_reply (s : State) : (breakRecognised s).reply = s.reply := by unfold breakRecognised; split; rfl; split <;> simp
@[simp] theorem breakRecognised_fresh (s : State) : (breakRecognised s).fresh = s.fresh := by unfold breakRecognised; split; rfl; split <;> simp
@[simp] theorem breakRecognised_pending (s : State) : (breakRecognised s).pending = s.pending := by unfold breakRecognised; split; rfl; split <;> simp

/-- `breakRecognised` writes nothing else. -/
theorem breakRecognised_writes (s : State) :
    breakRecognised s = { s with
      suppression := (breakRecognised s).suppression, outbox := (breakRecognised s).outbox, censusRetry :=
      (breakRecognised s).censusRetry, opening := (breakRecognised s).opening, frame := (breakRecognised
      s).frame, highTime := (breakRecognised s).highTime, lineLow := (breakRecognised s).lineLow, latch :=
      (breakRecognised s).latch } := by
  apply State.ext <;> simp

/-! ### `fallingEdge` -/

@[simp] theorem fallingEdge_resetHeld (s : State) : (fallingEdge s).resetHeld = s.resetHeld := by unfold fallingEdge; split <;> rfl
@[simp] theorem fallingEdge_oneTime (s : State) : (fallingEdge s).oneTime = s.oneTime := by unfold fallingEdge; split <;> rfl
@[simp] theorem fallingEdge_writing (s : State) : (fallingEdge s).writing = s.writing := by unfold fallingEdge; split <;> rfl
@[simp] theorem fallingEdge_written (s : State) : (fallingEdge s).written = s.written := by unfold fallingEdge; split <;> rfl
@[simp] theorem fallingEdge_address (s : State) : (fallingEdge s).address = s.address := by unfold fallingEdge; split <;> rfl
@[simp] theorem fallingEdge_record (s : State) : (fallingEdge s).record = s.record := by unfold fallingEdge; split <;> rfl
@[simp] theorem fallingEdge_cause (s : State) : (fallingEdge s).cause = s.cause := by unfold fallingEdge; split <;> rfl
@[simp] theorem fallingEdge_mode (s : State) : (fallingEdge s).mode = s.mode := by unfold fallingEdge; split <;> rfl
@[simp] theorem fallingEdge_faultCause (s : State) : (fallingEdge s).faultCause = s.faultCause := by unfold fallingEdge; split <;> rfl
@[simp] theorem fallingEdge_voidRun (s : State) : (fallingEdge s).voidRun = s.voidRun := by unfold fallingEdge; split <;> rfl
@[simp] theorem fallingEdge_replicas (s : State) : (fallingEdge s).replicas = s.replicas := by unfold fallingEdge; split <;> rfl
@[simp] theorem fallingEdge_holding (s : State) : (fallingEdge s).holding = s.holding := by unfold fallingEdge; split <;> rfl
@[simp] theorem fallingEdge_ownAge (s : State) : (fallingEdge s).ownAge = s.ownAge := by unfold fallingEdge; split <;> rfl
@[simp] theorem fallingEdge_requested (s : State) : (fallingEdge s).requested = s.requested := by unfold fallingEdge; split <;> rfl
@[simp] theorem fallingEdge_target (s : State) : (fallingEdge s).target = s.target := by unfold fallingEdge; split <;> rfl
@[simp] theorem fallingEdge_suppression (s : State) : (fallingEdge s).suppression = s.suppression := by unfold fallingEdge; split <;> rfl
@[simp] theorem fallingEdge_outbox (s : State) : (fallingEdge s).outbox = s.outbox := by unfold fallingEdge; split <;> rfl
@[simp] theorem fallingEdge_censusRetry (s : State) : (fallingEdge s).censusRetry = s.censusRetry := by unfold fallingEdge; split <;> rfl
@[simp] theorem fallingEdge_opening (s : State) : (fallingEdge s).opening = s.opening := by unfold fallingEdge; split <;> rfl
@[simp] theorem fallingEdge_frame (s : State) : (fallingEdge s).frame = s.frame := by unfold fallingEdge; split <;> rfl
@[simp] theorem fallingEdge_synchronised (s : State) : (fallingEdge s).synchronised = s.synchronised := by unfold fallingEdge; split <;> rfl
@[simp] theorem fallingEdge_joinCondition (s : State) : (fallingEdge s).joinCondition = s.joinCondition := by unfold fallingEdge; split <;> rfl
@[simp] theorem fallingEdge_wakeArmed (s : State) : (fallingEdge s).wakeArmed = s.wakeArmed := by unfold fallingEdge; split <;> rfl
@[simp] theorem fallingEdge_renewTimer (s : State) : (fallingEdge s).renewTimer = s.renewTimer := by unfold fallingEdge; split <;> rfl
@[simp] theorem fallingEdge_windowCap (s : State) : (fallingEdge s).windowCap = s.windowCap := by unfold fallingEdge; split <;> rfl
@[simp] theorem fallingEdge_muteWait (s : State) : (fallingEdge s).muteWait = s.muteWait := by unfold fallingEdge; split <;> rfl
@[simp] theorem fallingEdge_level (s : State) : (fallingEdge s).level = s.level := by unfold fallingEdge; split <;> rfl
@[simp] theorem fallingEdge_rampTarget (s : State) : (fallingEdge s).rampTarget = s.rampTarget := by unfold fallingEdge; split <;> rfl
@[simp] theorem fallingEdge_settle (s : State) : (fallingEdge s).settle = s.settle := by unfold fallingEdge; split <;> rfl
@[simp] theorem fallingEdge_overdrawRun (s : State) : (fallingEdge s).overdrawRun = s.overdrawRun := by unfold fallingEdge; split <;> rfl
@[simp] theorem fallingEdge_underRun (s : State) : (fallingEdge s).underRun = s.underRun := by unfold fallingEdge; split <;> rfl
@[simp] theorem fallingEdge_under (s : State) : (fallingEdge s).under = s.under := by unfold fallingEdge; split <;> rfl
@[simp] theorem fallingEdge_supplyLow (s : State) : (fallingEdge s).supplyLow = s.supplyLow := by unfold fallingEdge; split <;> rfl
@[simp] theorem fallingEdge_droopHold (s : State) : (fallingEdge s).droopHold = s.droopHold := by unfold fallingEdge; split <;> rfl
@[simp] theorem fallingEdge_recovery (s : State) : (fallingEdge s).recovery = s.recovery := by unfold fallingEdge; split <;> rfl
@[simp] theorem fallingEdge_latch (s : State) : (fallingEdge s).latch = s.latch := by unfold fallingEdge; split <;> rfl
@[simp] theorem fallingEdge_mask (s : State) : (fallingEdge s).mask = s.mask := by unfold fallingEdge; split <;> rfl
@[simp] theorem fallingEdge_straddling (s : State) : (fallingEdge s).straddling = s.straddling := by unfold fallingEdge; split <;> rfl
@[simp] theorem fallingEdge_reply (s : State) : (fallingEdge s).reply = s.reply := by unfold fallingEdge; split <;> rfl
@[simp] theorem fallingEdge_fresh (s : State) : (fallingEdge s).fresh = s.fresh := by unfold fallingEdge; split <;> rfl
@[simp] theorem fallingEdge_pending (s : State) : (fallingEdge s).pending = s.pending := by unfold fallingEdge; split <;> rfl

/-- `fallingEdge` writes nothing else. -/
theorem fallingEdge_writes (s : State) :
    fallingEdge s = { s with
      highTime := (fallingEdge s).highTime, lineLow := (fallingEdge s).lineLow } := by
  apply State.ext <;> simp

/-! ### `applyFrame` -/

@[simp] theorem applyFrame_resetHeld (f : FrameFields) (s : State) : (applyFrame f s).resetHeld = s.resetHeld := by unfold applyFrame; dsimp only; split; simp; split <;> simp
@[simp] theorem applyFrame_oneTime (f : FrameFields) (s : State) : (applyFrame f s).oneTime = s.oneTime := by unfold applyFrame; dsimp only; split; simp; split <;> simp
@[simp] theorem applyFrame_writing (f : FrameFields) (s : State) : (applyFrame f s).writing = s.writing := by unfold applyFrame; dsimp only; split; simp; split <;> simp
@[simp] theorem applyFrame_written (f : FrameFields) (s : State) : (applyFrame f s).written = s.written := by unfold applyFrame; dsimp only; split; simp; split <;> simp
@[simp] theorem applyFrame_address (f : FrameFields) (s : State) : (applyFrame f s).address = s.address := by unfold applyFrame; dsimp only; split; simp; split <;> simp
@[simp] theorem applyFrame_record (f : FrameFields) (s : State) : (applyFrame f s).record = s.record := by unfold applyFrame; dsimp only; split; simp; split <;> simp
@[simp] theorem applyFrame_cause (f : FrameFields) (s : State) : (applyFrame f s).cause = s.cause := by unfold applyFrame; dsimp only; split; simp; split <;> simp
@[simp] theorem applyFrame_mode (f : FrameFields) (s : State) : (applyFrame f s).mode = s.mode := by unfold applyFrame; dsimp only; split; simp; split <;> simp
@[simp] theorem applyFrame_faultCause (f : FrameFields) (s : State) : (applyFrame f s).faultCause = s.faultCause := by unfold applyFrame; dsimp only; split; simp; split <;> simp
@[simp] theorem applyFrame_voidRun (f : FrameFields) (s : State) : (applyFrame f s).voidRun = s.voidRun := by unfold applyFrame; dsimp only; split; simp; split <;> simp
@[simp] theorem applyFrame_ownAge (f : FrameFields) (s : State) : (applyFrame f s).ownAge = s.ownAge := by unfold applyFrame; dsimp only; split; simp; split <;> simp
@[simp] theorem applyFrame_requested (f : FrameFields) (s : State) : (applyFrame f s).requested = s.requested := by unfold applyFrame; dsimp only; split; simp; split <;> simp
@[simp] theorem applyFrame_censusRetry (f : FrameFields) (s : State) : (applyFrame f s).censusRetry = s.censusRetry := by unfold applyFrame; dsimp only; split; simp; split <;> simp
@[simp] theorem applyFrame_opening (f : FrameFields) (s : State) : (applyFrame f s).opening = s.opening := by unfold applyFrame; dsimp only; split; simp; split <;> simp
@[simp] theorem applyFrame_frame (f : FrameFields) (s : State) : (applyFrame f s).frame = s.frame := by unfold applyFrame; dsimp only; split; simp; split <;> simp
@[simp] theorem applyFrame_synchronised (f : FrameFields) (s : State) : (applyFrame f s).synchronised = s.synchronised := by unfold applyFrame; dsimp only; split; simp; split <;> simp
@[simp] theorem applyFrame_joinCondition (f : FrameFields) (s : State) : (applyFrame f s).joinCondition = s.joinCondition := by unfold applyFrame; dsimp only; split; simp; split <;> simp
@[simp] theorem applyFrame_highTime (f : FrameFields) (s : State) : (applyFrame f s).highTime = s.highTime := by unfold applyFrame; dsimp only; split; simp; split <;> simp
@[simp] theorem applyFrame_lineLow (f : FrameFields) (s : State) : (applyFrame f s).lineLow = s.lineLow := by unfold applyFrame; dsimp only; split; simp; split <;> simp
@[simp] theorem applyFrame_wakeArmed (f : FrameFields) (s : State) : (applyFrame f s).wakeArmed = s.wakeArmed := by unfold applyFrame; dsimp only; split; simp; split <;> simp
@[simp] theorem applyFrame_renewTimer (f : FrameFields) (s : State) : (applyFrame f s).renewTimer = s.renewTimer := by unfold applyFrame; dsimp only; split; simp; split <;> simp
@[simp] theorem applyFrame_windowCap (f : FrameFields) (s : State) : (applyFrame f s).windowCap = s.windowCap := by unfold applyFrame; dsimp only; split; simp; split <;> simp
@[simp] theorem applyFrame_muteWait (f : FrameFields) (s : State) : (applyFrame f s).muteWait = s.muteWait := by unfold applyFrame; dsimp only; split; simp; split <;> simp
@[simp] theorem applyFrame_supplyLow (f : FrameFields) (s : State) : (applyFrame f s).supplyLow = s.supplyLow := by unfold applyFrame; dsimp only; split; simp; split <;> simp
@[simp] theorem applyFrame_droopHold (f : FrameFields) (s : State) : (applyFrame f s).droopHold = s.droopHold := by unfold applyFrame; dsimp only; split; simp; split <;> simp
@[simp] theorem applyFrame_recovery (f : FrameFields) (s : State) : (applyFrame f s).recovery = s.recovery := by unfold applyFrame; dsimp only; split; simp; split <;> simp
@[simp] theorem applyFrame_mask (f : FrameFields) (s : State) : (applyFrame f s).mask = s.mask := by unfold applyFrame; dsimp only; split; simp; split <;> simp
@[simp] theorem applyFrame_straddling (f : FrameFields) (s : State) : (applyFrame f s).straddling = s.straddling := by unfold applyFrame; dsimp only; split; simp; split <;> simp
@[simp] theorem applyFrame_reply (f : FrameFields) (s : State) : (applyFrame f s).reply = s.reply := by unfold applyFrame; dsimp only; split; simp; split <;> simp
@[simp] theorem applyFrame_fresh (f : FrameFields) (s : State) : (applyFrame f s).fresh = s.fresh := by unfold applyFrame; dsimp only; split; simp; split <;> simp
@[simp] theorem applyFrame_pending (f : FrameFields) (s : State) : (applyFrame f s).pending = s.pending := by unfold applyFrame; dsimp only; split; simp; split <;> simp

/-- `applyFrame` writes nothing else. -/
theorem applyFrame_writes (f : FrameFields) (s : State) :
    applyFrame f s = { s with
      replicas := (applyFrame f s).replicas, holding := (applyFrame f s).holding, target := (applyFrame f
      s).target, suppression := (applyFrame f s).suppression, outbox := (applyFrame f s).outbox, level :=
      (applyFrame f s).level, rampTarget := (applyFrame f s).rampTarget, settle := (applyFrame f
      s).settle, overdrawRun := (applyFrame f s).overdrawRun, underRun := (applyFrame f s).underRun, under
      := (applyFrame f s).under, latch := (applyFrame f s).latch } := by
  apply State.ext <;> simp

/-! ### `answerCensus` -/

@[simp] theorem answerCensus_resetHeld (f : FrameFields) (s : State) : (answerCensus f s).resetHeld = s.resetHeld := by unfold answerCensus; split <;> simp
@[simp] theorem answerCensus_oneTime (f : FrameFields) (s : State) : (answerCensus f s).oneTime = s.oneTime := by unfold answerCensus; split <;> simp
@[simp] theorem answerCensus_writing (f : FrameFields) (s : State) : (answerCensus f s).writing = s.writing := by unfold answerCensus; split <;> simp
@[simp] theorem answerCensus_written (f : FrameFields) (s : State) : (answerCensus f s).written = s.written := by unfold answerCensus; split <;> simp
@[simp] theorem answerCensus_address (f : FrameFields) (s : State) : (answerCensus f s).address = s.address := by unfold answerCensus; split <;> simp
@[simp] theorem answerCensus_record (f : FrameFields) (s : State) : (answerCensus f s).record = s.record := by unfold answerCensus; split <;> simp
@[simp] theorem answerCensus_cause (f : FrameFields) (s : State) : (answerCensus f s).cause = s.cause := by unfold answerCensus; split <;> simp
@[simp] theorem answerCensus_mode (f : FrameFields) (s : State) : (answerCensus f s).mode = s.mode := by unfold answerCensus; split <;> simp
@[simp] theorem answerCensus_faultCause (f : FrameFields) (s : State) : (answerCensus f s).faultCause = s.faultCause := by unfold answerCensus; split <;> simp
@[simp] theorem answerCensus_voidRun (f : FrameFields) (s : State) : (answerCensus f s).voidRun = s.voidRun := by unfold answerCensus; split <;> simp
@[simp] theorem answerCensus_replicas (f : FrameFields) (s : State) : (answerCensus f s).replicas = s.replicas := by unfold answerCensus; split <;> simp
@[simp] theorem answerCensus_holding (f : FrameFields) (s : State) : (answerCensus f s).holding = s.holding := by unfold answerCensus; split <;> simp
@[simp] theorem answerCensus_ownAge (f : FrameFields) (s : State) : (answerCensus f s).ownAge = s.ownAge := by unfold answerCensus; split <;> simp
@[simp] theorem answerCensus_requested (f : FrameFields) (s : State) : (answerCensus f s).requested = s.requested := by unfold answerCensus; split <;> simp
@[simp] theorem answerCensus_target (f : FrameFields) (s : State) : (answerCensus f s).target = s.target := by unfold answerCensus; split <;> simp
@[simp] theorem answerCensus_suppression (f : FrameFields) (s : State) : (answerCensus f s).suppression = s.suppression := by unfold answerCensus; split <;> simp
@[simp] theorem answerCensus_censusRetry (f : FrameFields) (s : State) : (answerCensus f s).censusRetry = s.censusRetry := by unfold answerCensus; split <;> simp
@[simp] theorem answerCensus_opening (f : FrameFields) (s : State) : (answerCensus f s).opening = s.opening := by unfold answerCensus; split <;> simp
@[simp] theorem answerCensus_frame (f : FrameFields) (s : State) : (answerCensus f s).frame = s.frame := by unfold answerCensus; split <;> simp
@[simp] theorem answerCensus_synchronised (f : FrameFields) (s : State) : (answerCensus f s).synchronised = s.synchronised := by unfold answerCensus; split <;> simp
@[simp] theorem answerCensus_joinCondition (f : FrameFields) (s : State) : (answerCensus f s).joinCondition = s.joinCondition := by unfold answerCensus; split <;> simp
@[simp] theorem answerCensus_highTime (f : FrameFields) (s : State) : (answerCensus f s).highTime = s.highTime := by unfold answerCensus; split <;> simp
@[simp] theorem answerCensus_lineLow (f : FrameFields) (s : State) : (answerCensus f s).lineLow = s.lineLow := by unfold answerCensus; split <;> simp
@[simp] theorem answerCensus_wakeArmed (f : FrameFields) (s : State) : (answerCensus f s).wakeArmed = s.wakeArmed := by unfold answerCensus; split <;> simp
@[simp] theorem answerCensus_renewTimer (f : FrameFields) (s : State) : (answerCensus f s).renewTimer = s.renewTimer := by unfold answerCensus; split <;> simp
@[simp] theorem answerCensus_windowCap (f : FrameFields) (s : State) : (answerCensus f s).windowCap = s.windowCap := by unfold answerCensus; split <;> simp
@[simp] theorem answerCensus_muteWait (f : FrameFields) (s : State) : (answerCensus f s).muteWait = s.muteWait := by unfold answerCensus; split <;> simp
@[simp] theorem answerCensus_level (f : FrameFields) (s : State) : (answerCensus f s).level = s.level := by unfold answerCensus; split <;> simp
@[simp] theorem answerCensus_rampTarget (f : FrameFields) (s : State) : (answerCensus f s).rampTarget = s.rampTarget := by unfold answerCensus; split <;> simp
@[simp] theorem answerCensus_settle (f : FrameFields) (s : State) : (answerCensus f s).settle = s.settle := by unfold answerCensus; split <;> simp
@[simp] theorem answerCensus_overdrawRun (f : FrameFields) (s : State) : (answerCensus f s).overdrawRun = s.overdrawRun := by unfold answerCensus; split <;> simp
@[simp] theorem answerCensus_underRun (f : FrameFields) (s : State) : (answerCensus f s).underRun = s.underRun := by unfold answerCensus; split <;> simp
@[simp] theorem answerCensus_under (f : FrameFields) (s : State) : (answerCensus f s).under = s.under := by unfold answerCensus; split <;> simp
@[simp] theorem answerCensus_supplyLow (f : FrameFields) (s : State) : (answerCensus f s).supplyLow = s.supplyLow := by unfold answerCensus; split <;> simp
@[simp] theorem answerCensus_droopHold (f : FrameFields) (s : State) : (answerCensus f s).droopHold = s.droopHold := by unfold answerCensus; split <;> simp
@[simp] theorem answerCensus_recovery (f : FrameFields) (s : State) : (answerCensus f s).recovery = s.recovery := by unfold answerCensus; split <;> simp
@[simp] theorem answerCensus_latch (f : FrameFields) (s : State) : (answerCensus f s).latch = s.latch := by unfold answerCensus; split <;> simp
@[simp] theorem answerCensus_mask (f : FrameFields) (s : State) : (answerCensus f s).mask = s.mask := by unfold answerCensus; split <;> simp
@[simp] theorem answerCensus_straddling (f : FrameFields) (s : State) : (answerCensus f s).straddling = s.straddling := by unfold answerCensus; split <;> simp
@[simp] theorem answerCensus_reply (f : FrameFields) (s : State) : (answerCensus f s).reply = s.reply := by unfold answerCensus; split <;> simp
@[simp] theorem answerCensus_fresh (f : FrameFields) (s : State) : (answerCensus f s).fresh = s.fresh := by unfold answerCensus; split <;> simp
@[simp] theorem answerCensus_pending (f : FrameFields) (s : State) : (answerCensus f s).pending = s.pending := by unfold answerCensus; split <;> simp

/-- `answerCensus` writes nothing else. -/
theorem answerCensus_writes (f : FrameFields) (s : State) :
    answerCensus f s = { s with
      outbox := (answerCensus f s).outbox } := by
  apply State.ext <;> simp

/-! ### `serveOutbox` -/

@[simp] theorem serveOutbox_resetHeld (s : State) : (serveOutbox s).resetHeld = s.resetHeld := by unfold serveOutbox; split; rfl; (split; simp; dsimp only; split <;> simp); simp
@[simp] theorem serveOutbox_oneTime (s : State) : (serveOutbox s).oneTime = s.oneTime := by unfold serveOutbox; split; rfl; (split; simp; dsimp only; split <;> simp); simp
@[simp] theorem serveOutbox_writing (s : State) : (serveOutbox s).writing = s.writing := by unfold serveOutbox; split; rfl; (split; simp; dsimp only; split <;> simp); simp
@[simp] theorem serveOutbox_written (s : State) : (serveOutbox s).written = s.written := by unfold serveOutbox; split; rfl; (split; simp; dsimp only; split <;> simp); simp
@[simp] theorem serveOutbox_address (s : State) : (serveOutbox s).address = s.address := by unfold serveOutbox; split; rfl; (split; simp; dsimp only; split <;> simp); simp
@[simp] theorem serveOutbox_record (s : State) : (serveOutbox s).record = s.record := by unfold serveOutbox; split; rfl; (split; simp; dsimp only; split <;> simp); simp
@[simp] theorem serveOutbox_cause (s : State) : (serveOutbox s).cause = s.cause := by unfold serveOutbox; split; rfl; (split; simp; dsimp only; split <;> simp); simp
@[simp] theorem serveOutbox_mode (s : State) : (serveOutbox s).mode = s.mode := by unfold serveOutbox; split; rfl; (split; simp; dsimp only; split <;> simp); simp
@[simp] theorem serveOutbox_faultCause (s : State) : (serveOutbox s).faultCause = s.faultCause := by unfold serveOutbox; split; rfl; (split; simp; dsimp only; split <;> simp); simp
@[simp] theorem serveOutbox_voidRun (s : State) : (serveOutbox s).voidRun = s.voidRun := by unfold serveOutbox; split; rfl; (split; simp; dsimp only; split <;> simp); simp
@[simp] theorem serveOutbox_replicas (s : State) : (serveOutbox s).replicas = s.replicas := by unfold serveOutbox; split; rfl; (split; simp; dsimp only; split <;> simp); simp
@[simp] theorem serveOutbox_holding (s : State) : (serveOutbox s).holding = s.holding := by unfold serveOutbox; split; rfl; (split; simp; dsimp only; split <;> simp); simp
@[simp] theorem serveOutbox_ownAge (s : State) : (serveOutbox s).ownAge = s.ownAge := by unfold serveOutbox; split; rfl; (split; simp; dsimp only; split <;> simp); simp
@[simp] theorem serveOutbox_requested (s : State) : (serveOutbox s).requested = s.requested := by unfold serveOutbox; split; rfl; (split; simp; dsimp only; split <;> simp); simp
@[simp] theorem serveOutbox_target (s : State) : (serveOutbox s).target = s.target := by unfold serveOutbox; split; rfl; (split; simp; dsimp only; split <;> simp); simp
@[simp] theorem serveOutbox_suppression (s : State) : (serveOutbox s).suppression = s.suppression := by unfold serveOutbox; split; rfl; (split; simp; dsimp only; split <;> simp); simp
@[simp] theorem serveOutbox_censusRetry (s : State) : (serveOutbox s).censusRetry = s.censusRetry := by unfold serveOutbox; split; rfl; (split; simp; dsimp only; split <;> simp); simp
@[simp] theorem serveOutbox_synchronised (s : State) : (serveOutbox s).synchronised = s.synchronised := by unfold serveOutbox; split; rfl; (split; simp; dsimp only; split <;> simp); simp
@[simp] theorem serveOutbox_joinCondition (s : State) : (serveOutbox s).joinCondition = s.joinCondition := by unfold serveOutbox; split; rfl; (split; simp; dsimp only; split <;> simp); simp
@[simp] theorem serveOutbox_wakeArmed (s : State) : (serveOutbox s).wakeArmed = s.wakeArmed := by unfold serveOutbox; split; rfl; (split; simp; dsimp only; split <;> simp); simp
@[simp] theorem serveOutbox_renewTimer (s : State) : (serveOutbox s).renewTimer = s.renewTimer := by unfold serveOutbox; split; rfl; (split; simp; dsimp only; split <;> simp); simp
@[simp] theorem serveOutbox_windowCap (s : State) : (serveOutbox s).windowCap = s.windowCap := by unfold serveOutbox; split; rfl; (split; simp; dsimp only; split <;> simp); simp
@[simp] theorem serveOutbox_muteWait (s : State) : (serveOutbox s).muteWait = s.muteWait := by unfold serveOutbox; split; rfl; (split; simp; dsimp only; split <;> simp); simp
@[simp] theorem serveOutbox_level (s : State) : (serveOutbox s).level = s.level := by unfold serveOutbox; split; rfl; (split; simp; dsimp only; split <;> simp); simp
@[simp] theorem serveOutbox_rampTarget (s : State) : (serveOutbox s).rampTarget = s.rampTarget := by unfold serveOutbox; split; rfl; (split; simp; dsimp only; split <;> simp); simp
@[simp] theorem serveOutbox_settle (s : State) : (serveOutbox s).settle = s.settle := by unfold serveOutbox; split; rfl; (split; simp; dsimp only; split <;> simp); simp
@[simp] theorem serveOutbox_overdrawRun (s : State) : (serveOutbox s).overdrawRun = s.overdrawRun := by unfold serveOutbox; split; rfl; (split; simp; dsimp only; split <;> simp); simp
@[simp] theorem serveOutbox_underRun (s : State) : (serveOutbox s).underRun = s.underRun := by unfold serveOutbox; split; rfl; (split; simp; dsimp only; split <;> simp); simp
@[simp] theorem serveOutbox_under (s : State) : (serveOutbox s).under = s.under := by unfold serveOutbox; split; rfl; (split; simp; dsimp only; split <;> simp); simp
@[simp] theorem serveOutbox_supplyLow (s : State) : (serveOutbox s).supplyLow = s.supplyLow := by unfold serveOutbox; split; rfl; (split; simp; dsimp only; split <;> simp); simp
@[simp] theorem serveOutbox_droopHold (s : State) : (serveOutbox s).droopHold = s.droopHold := by unfold serveOutbox; split; rfl; (split; simp; dsimp only; split <;> simp); simp
@[simp] theorem serveOutbox_recovery (s : State) : (serveOutbox s).recovery = s.recovery := by unfold serveOutbox; split; rfl; (split; simp; dsimp only; split <;> simp); simp
@[simp] theorem serveOutbox_latch (s : State) : (serveOutbox s).latch = s.latch := by unfold serveOutbox; split; rfl; (split; simp; dsimp only; split <;> simp); simp
@[simp] theorem serveOutbox_mask (s : State) : (serveOutbox s).mask = s.mask := by unfold serveOutbox; split; rfl; (split; simp; dsimp only; split <;> simp); simp
@[simp] theorem serveOutbox_straddling (s : State) : (serveOutbox s).straddling = s.straddling := by unfold serveOutbox; split; rfl; (split; simp; dsimp only; split <;> simp); simp
@[simp] theorem serveOutbox_reply (s : State) : (serveOutbox s).reply = s.reply := by unfold serveOutbox; split; rfl; (split; simp; dsimp only; split <;> simp); simp
@[simp] theorem serveOutbox_fresh (s : State) : (serveOutbox s).fresh = s.fresh := by unfold serveOutbox; split; rfl; (split; simp; dsimp only; split <;> simp); simp
@[simp] theorem serveOutbox_pending (s : State) : (serveOutbox s).pending = s.pending := by unfold serveOutbox; split; rfl; (split; simp; dsimp only; split <;> simp); simp

/-- `serveOutbox` writes nothing else. -/
theorem serveOutbox_writes (s : State) :
    serveOutbox s = { s with
      outbox := (serveOutbox s).outbox, opening := (serveOutbox s).opening, frame := (serveOutbox
      s).frame, highTime := (serveOutbox s).highTime, lineLow := (serveOutbox s).lineLow } := by
  apply State.ext <;> simp

/-! ### `enterStart` -/

@[simp] theorem enterStart_resetHeld (s : State) : (enterStart s).resetHeld = s.resetHeld := by simp [enterStart]
@[simp] theorem enterStart_oneTime (s : State) : (enterStart s).oneTime = s.oneTime := by simp [enterStart]
@[simp] theorem enterStart_writing (s : State) : (enterStart s).writing = s.writing := by simp [enterStart]
@[simp] theorem enterStart_written (s : State) : (enterStart s).written = s.written := by simp [enterStart]
@[simp] theorem enterStart_address (s : State) : (enterStart s).address = s.address := by simp [enterStart]
@[simp] theorem enterStart_record (s : State) : (enterStart s).record = s.record := by simp [enterStart]
@[simp] theorem enterStart_cause (s : State) : (enterStart s).cause = s.cause := by simp [enterStart]
@[simp] theorem enterStart_ownAge (s : State) : (enterStart s).ownAge = s.ownAge := by simp [enterStart]
@[simp] theorem enterStart_requested (s : State) : (enterStart s).requested = s.requested := by simp [enterStart]
@[simp] theorem enterStart_opening (s : State) : (enterStart s).opening = s.opening := by simp [enterStart]
@[simp] theorem enterStart_frame (s : State) : (enterStart s).frame = s.frame := by simp [enterStart]
@[simp] theorem enterStart_lineLow (s : State) : (enterStart s).lineLow = s.lineLow := by simp [enterStart]
@[simp] theorem enterStart_supplyLow (s : State) : (enterStart s).supplyLow = s.supplyLow := by simp [enterStart]
@[simp] theorem enterStart_droopHold (s : State) : (enterStart s).droopHold = s.droopHold := by simp [enterStart]
@[simp] theorem enterStart_recovery (s : State) : (enterStart s).recovery = s.recovery := by simp [enterStart]
@[simp] theorem enterStart_mask (s : State) : (enterStart s).mask = s.mask := by simp [enterStart]
@[simp] theorem enterStart_straddling (s : State) : (enterStart s).straddling = s.straddling := by simp [enterStart]
@[simp] theorem enterStart_reply (s : State) : (enterStart s).reply = s.reply := by simp [enterStart]
@[simp] theorem enterStart_fresh (s : State) : (enterStart s).fresh = s.fresh := by simp [enterStart]
@[simp] theorem enterStart_pending (s : State) : (enterStart s).pending = s.pending := by simp [enterStart]

/-! ### `wakeStation` -/

@[simp] theorem wakeStation_resetHeld (s : State) : (wakeStation s).resetHeld = s.resetHeld := by simp [wakeStation]
@[simp] theorem wakeStation_oneTime (s : State) : (wakeStation s).oneTime = s.oneTime := by simp [wakeStation]
@[simp] theorem wakeStation_writing (s : State) : (wakeStation s).writing = s.writing := by simp [wakeStation]
@[simp] theorem wakeStation_written (s : State) : (wakeStation s).written = s.written := by simp [wakeStation]
@[simp] theorem wakeStation_address (s : State) : (wakeStation s).address = s.address := by simp [wakeStation]
@[simp] theorem wakeStation_record (s : State) : (wakeStation s).record = s.record := by simp [wakeStation]
@[simp] theorem wakeStation_cause (s : State) : (wakeStation s).cause = s.cause := by simp [wakeStation]
@[simp] theorem wakeStation_requested (s : State) : (wakeStation s).requested = s.requested := by simp [wakeStation]
@[simp] theorem wakeStation_opening (s : State) : (wakeStation s).opening = s.opening := by simp [wakeStation]
@[simp] theorem wakeStation_frame (s : State) : (wakeStation s).frame = s.frame := by simp [wakeStation]
@[simp] theorem wakeStation_lineLow (s : State) : (wakeStation s).lineLow = s.lineLow := by simp [wakeStation]
@[simp] theorem wakeStation_mask (s : State) : (wakeStation s).mask = s.mask := by simp [wakeStation]
@[simp] theorem wakeStation_straddling (s : State) : (wakeStation s).straddling = s.straddling := by simp [wakeStation]
@[simp] theorem wakeStation_reply (s : State) : (wakeStation s).reply = s.reply := by simp [wakeStation]
@[simp] theorem wakeStation_fresh (s : State) : (wakeStation s).fresh = s.fresh := by simp [wakeStation]
@[simp] theorem wakeStation_pending (s : State) : (wakeStation s).pending = s.pending := by simp [wakeStation]

/-! ### `enterLearning` -/

@[simp] theorem enterLearning_resetHeld (carried : Nat) (s : State) : (enterLearning carried s).resetHeld = s.resetHeld := by unfold enterLearning; dsimp only; split <;> simp
@[simp] theorem enterLearning_oneTime (carried : Nat) (s : State) : (enterLearning carried s).oneTime = s.oneTime := by unfold enterLearning; dsimp only; split <;> simp
@[simp] theorem enterLearning_writing (carried : Nat) (s : State) : (enterLearning carried s).writing = s.writing := by unfold enterLearning; dsimp only; split <;> simp
@[simp] theorem enterLearning_written (carried : Nat) (s : State) : (enterLearning carried s).written = s.written := by unfold enterLearning; dsimp only; split <;> simp
@[simp] theorem enterLearning_address (carried : Nat) (s : State) : (enterLearning carried s).address = s.address := by unfold enterLearning; dsimp only; split <;> simp
@[simp] theorem enterLearning_record (carried : Nat) (s : State) : (enterLearning carried s).record = s.record := by unfold enterLearning; dsimp only; split <;> simp
@[simp] theorem enterLearning_cause (carried : Nat) (s : State) : (enterLearning carried s).cause = s.cause := by unfold enterLearning; dsimp only; split <;> simp
@[simp] theorem enterLearning_faultCause (carried : Nat) (s : State) : (enterLearning carried s).faultCause = s.faultCause := by unfold enterLearning; dsimp only; split <;> simp
@[simp] theorem enterLearning_voidRun (carried : Nat) (s : State) : (enterLearning carried s).voidRun = s.voidRun := by unfold enterLearning; dsimp only; split <;> simp
@[simp] theorem enterLearning_replicas (carried : Nat) (s : State) : (enterLearning carried s).replicas = s.replicas := by unfold enterLearning; dsimp only; split <;> simp
@[simp] theorem enterLearning_ownAge (carried : Nat) (s : State) : (enterLearning carried s).ownAge = s.ownAge := by unfold enterLearning; dsimp only; split <;> simp
@[simp] theorem enterLearning_requested (carried : Nat) (s : State) : (enterLearning carried s).requested = s.requested := by unfold enterLearning; dsimp only; split <;> simp
@[simp] theorem enterLearning_opening (carried : Nat) (s : State) : (enterLearning carried s).opening = s.opening := by unfold enterLearning; dsimp only; split <;> simp
@[simp] theorem enterLearning_frame (carried : Nat) (s : State) : (enterLearning carried s).frame = s.frame := by unfold enterLearning; dsimp only; split <;> simp
@[simp] theorem enterLearning_synchronised (carried : Nat) (s : State) : (enterLearning carried s).synchronised = s.synchronised := by unfold enterLearning; dsimp only; split <;> simp
@[simp] theorem enterLearning_lineLow (carried : Nat) (s : State) : (enterLearning carried s).lineLow = s.lineLow := by unfold enterLearning; dsimp only; split <;> simp
@[simp] theorem enterLearning_wakeArmed (carried : Nat) (s : State) : (enterLearning carried s).wakeArmed = s.wakeArmed := by unfold enterLearning; dsimp only; split <;> simp
@[simp] theorem enterLearning_renewTimer (carried : Nat) (s : State) : (enterLearning carried s).renewTimer = s.renewTimer := by unfold enterLearning; dsimp only; split <;> simp
@[simp] theorem enterLearning_muteWait (carried : Nat) (s : State) : (enterLearning carried s).muteWait = s.muteWait := by unfold enterLearning; dsimp only; split <;> simp
@[simp] theorem enterLearning_supplyLow (carried : Nat) (s : State) : (enterLearning carried s).supplyLow = s.supplyLow := by unfold enterLearning; dsimp only; split <;> simp
@[simp] theorem enterLearning_droopHold (carried : Nat) (s : State) : (enterLearning carried s).droopHold = s.droopHold := by unfold enterLearning; dsimp only; split <;> simp
@[simp] theorem enterLearning_recovery (carried : Nat) (s : State) : (enterLearning carried s).recovery = s.recovery := by unfold enterLearning; dsimp only; split <;> simp
@[simp] theorem enterLearning_mask (carried : Nat) (s : State) : (enterLearning carried s).mask = s.mask := by unfold enterLearning; dsimp only; split <;> simp
@[simp] theorem enterLearning_straddling (carried : Nat) (s : State) : (enterLearning carried s).straddling = s.straddling := by unfold enterLearning; dsimp only; split <;> simp
@[simp] theorem enterLearning_reply (carried : Nat) (s : State) : (enterLearning carried s).reply = s.reply := by unfold enterLearning; dsimp only; split <;> simp
@[simp] theorem enterLearning_fresh (carried : Nat) (s : State) : (enterLearning carried s).fresh = s.fresh := by unfold enterLearning; dsimp only; split <;> simp
@[simp] theorem enterLearning_pending (carried : Nat) (s : State) : (enterLearning carried s).pending = s.pending := by unfold enterLearning; dsimp only; split <;> simp

/-- `enterLearning` writes nothing else. -/
theorem enterLearning_writes (carried : Nat) (s : State) :
    enterLearning carried s = { s with
      mode := (enterLearning carried s).mode, holding := (enterLearning carried s).holding, target :=
      (enterLearning carried s).target, suppression := (enterLearning carried s).suppression, outbox :=
      (enterLearning carried s).outbox, censusRetry := (enterLearning carried s).censusRetry,
      joinCondition := (enterLearning carried s).joinCondition, highTime := (enterLearning carried
      s).highTime, windowCap := (enterLearning carried s).windowCap, level := (enterLearning carried
      s).level, rampTarget := (enterLearning carried s).rampTarget, settle := (enterLearning carried
      s).settle, overdrawRun := (enterLearning carried s).overdrawRun, underRun := (enterLearning carried
      s).underRun, under := (enterLearning carried s).under, latch := (enterLearning carried s).latch } := by
  apply State.ext <;> simp

/-! ### `enterMember` -/

@[simp] theorem enterMember_resetHeld (s : State) : (enterMember s).resetHeld = s.resetHeld := by unfold enterMember; dsimp only; split <;> simp
@[simp] theorem enterMember_oneTime (s : State) : (enterMember s).oneTime = s.oneTime := by unfold enterMember; dsimp only; split <;> simp
@[simp] theorem enterMember_writing (s : State) : (enterMember s).writing = s.writing := by unfold enterMember; dsimp only; split <;> simp
@[simp] theorem enterMember_written (s : State) : (enterMember s).written = s.written := by unfold enterMember; dsimp only; split <;> simp
@[simp] theorem enterMember_address (s : State) : (enterMember s).address = s.address := by unfold enterMember; dsimp only; split <;> simp
@[simp] theorem enterMember_record (s : State) : (enterMember s).record = s.record := by unfold enterMember; dsimp only; split <;> simp
@[simp] theorem enterMember_cause (s : State) : (enterMember s).cause = s.cause := by unfold enterMember; dsimp only; split <;> simp
@[simp] theorem enterMember_faultCause (s : State) : (enterMember s).faultCause = s.faultCause := by unfold enterMember; dsimp only; split <;> simp
@[simp] theorem enterMember_voidRun (s : State) : (enterMember s).voidRun = s.voidRun := by unfold enterMember; dsimp only; split <;> simp
@[simp] theorem enterMember_replicas (s : State) : (enterMember s).replicas = s.replicas := by unfold enterMember; dsimp only; split <;> simp
@[simp] theorem enterMember_ownAge (s : State) : (enterMember s).ownAge = s.ownAge := by unfold enterMember; dsimp only; split <;> simp
@[simp] theorem enterMember_requested (s : State) : (enterMember s).requested = s.requested := by unfold enterMember; dsimp only; split <;> simp
@[simp] theorem enterMember_opening (s : State) : (enterMember s).opening = s.opening := by unfold enterMember; dsimp only; split <;> simp
@[simp] theorem enterMember_frame (s : State) : (enterMember s).frame = s.frame := by unfold enterMember; dsimp only; split <;> simp
@[simp] theorem enterMember_synchronised (s : State) : (enterMember s).synchronised = s.synchronised := by unfold enterMember; dsimp only; split <;> simp
@[simp] theorem enterMember_joinCondition (s : State) : (enterMember s).joinCondition = s.joinCondition := by unfold enterMember; dsimp only; split <;> simp
@[simp] theorem enterMember_highTime (s : State) : (enterMember s).highTime = s.highTime := by unfold enterMember; dsimp only; split <;> simp
@[simp] theorem enterMember_lineLow (s : State) : (enterMember s).lineLow = s.lineLow := by unfold enterMember; dsimp only; split <;> simp
@[simp] theorem enterMember_wakeArmed (s : State) : (enterMember s).wakeArmed = s.wakeArmed := by unfold enterMember; dsimp only; split <;> simp
@[simp] theorem enterMember_renewTimer (s : State) : (enterMember s).renewTimer = s.renewTimer := by unfold enterMember; dsimp only; split <;> simp
@[simp] theorem enterMember_muteWait (s : State) : (enterMember s).muteWait = s.muteWait := by unfold enterMember; dsimp only; split <;> simp
@[simp] theorem enterMember_supplyLow (s : State) : (enterMember s).supplyLow = s.supplyLow := by unfold enterMember; dsimp only; split <;> simp
@[simp] theorem enterMember_droopHold (s : State) : (enterMember s).droopHold = s.droopHold := by unfold enterMember; dsimp only; split <;> simp
@[simp] theorem enterMember_recovery (s : State) : (enterMember s).recovery = s.recovery := by unfold enterMember; dsimp only; split <;> simp
@[simp] theorem enterMember_mask (s : State) : (enterMember s).mask = s.mask := by unfold enterMember; dsimp only; split <;> simp
@[simp] theorem enterMember_straddling (s : State) : (enterMember s).straddling = s.straddling := by unfold enterMember; dsimp only; split <;> simp
@[simp] theorem enterMember_reply (s : State) : (enterMember s).reply = s.reply := by unfold enterMember; dsimp only; split <;> simp
@[simp] theorem enterMember_fresh (s : State) : (enterMember s).fresh = s.fresh := by unfold enterMember; dsimp only; split <;> simp
@[simp] theorem enterMember_pending (s : State) : (enterMember s).pending = s.pending := by unfold enterMember; dsimp only; split <;> simp

/-- `enterMember` writes nothing else. -/
theorem enterMember_writes (s : State) :
    enterMember s = { s with
      mode := (enterMember s).mode, holding := (enterMember s).holding, target := (enterMember s).target,
      suppression := (enterMember s).suppression, outbox := (enterMember s).outbox, censusRetry :=
      (enterMember s).censusRetry, windowCap := (enterMember s).windowCap, level := (enterMember s).level,
      rampTarget := (enterMember s).rampTarget, settle := (enterMember s).settle, overdrawRun :=
      (enterMember s).overdrawRun, underRun := (enterMember s).underRun, under := (enterMember s).under,
      latch := (enterMember s).latch } := by
  apply State.ext <;> simp

/-! ### `enterIsolated` -/

@[simp] theorem enterIsolated_resetHeld (relearn : Bool) (s : State) : (enterIsolated relearn s).resetHeld = s.resetHeld := by unfold enterIsolated; dsimp only; split <;> simp
@[simp] theorem enterIsolated_oneTime (relearn : Bool) (s : State) : (enterIsolated relearn s).oneTime = s.oneTime := by unfold enterIsolated; dsimp only; split <;> simp
@[simp] theorem enterIsolated_writing (relearn : Bool) (s : State) : (enterIsolated relearn s).writing = s.writing := by unfold enterIsolated; dsimp only; split <;> simp
@[simp] theorem enterIsolated_written (relearn : Bool) (s : State) : (enterIsolated relearn s).written = s.written := by unfold enterIsolated; dsimp only; split <;> simp
@[simp] theorem enterIsolated_address (relearn : Bool) (s : State) : (enterIsolated relearn s).address = s.address := by unfold enterIsolated; dsimp only; split <;> simp
@[simp] theorem enterIsolated_record (relearn : Bool) (s : State) : (enterIsolated relearn s).record = s.record := by unfold enterIsolated; dsimp only; split <;> simp
@[simp] theorem enterIsolated_cause (relearn : Bool) (s : State) : (enterIsolated relearn s).cause = s.cause := by unfold enterIsolated; dsimp only; split <;> simp
@[simp] theorem enterIsolated_faultCause (relearn : Bool) (s : State) : (enterIsolated relearn s).faultCause = s.faultCause := by unfold enterIsolated; dsimp only; split <;> simp
@[simp] theorem enterIsolated_voidRun (relearn : Bool) (s : State) : (enterIsolated relearn s).voidRun = s.voidRun := by unfold enterIsolated; dsimp only; split <;> simp
@[simp] theorem enterIsolated_replicas (relearn : Bool) (s : State) : (enterIsolated relearn s).replicas = s.replicas := by unfold enterIsolated; dsimp only; split <;> simp
@[simp] theorem enterIsolated_ownAge (relearn : Bool) (s : State) : (enterIsolated relearn s).ownAge = s.ownAge := by unfold enterIsolated; dsimp only; split <;> simp
@[simp] theorem enterIsolated_requested (relearn : Bool) (s : State) : (enterIsolated relearn s).requested = s.requested := by unfold enterIsolated; dsimp only; split <;> simp
@[simp] theorem enterIsolated_opening (relearn : Bool) (s : State) : (enterIsolated relearn s).opening = s.opening := by unfold enterIsolated; dsimp only; split <;> simp
@[simp] theorem enterIsolated_frame (relearn : Bool) (s : State) : (enterIsolated relearn s).frame = s.frame := by unfold enterIsolated; dsimp only; split <;> simp
@[simp] theorem enterIsolated_synchronised (relearn : Bool) (s : State) : (enterIsolated relearn s).synchronised = s.synchronised := by unfold enterIsolated; dsimp only; split <;> simp
@[simp] theorem enterIsolated_highTime (relearn : Bool) (s : State) : (enterIsolated relearn s).highTime = s.highTime := by unfold enterIsolated; dsimp only; split <;> simp
@[simp] theorem enterIsolated_lineLow (relearn : Bool) (s : State) : (enterIsolated relearn s).lineLow = s.lineLow := by unfold enterIsolated; dsimp only; split <;> simp
@[simp] theorem enterIsolated_wakeArmed (relearn : Bool) (s : State) : (enterIsolated relearn s).wakeArmed = s.wakeArmed := by unfold enterIsolated; dsimp only; split <;> simp
@[simp] theorem enterIsolated_renewTimer (relearn : Bool) (s : State) : (enterIsolated relearn s).renewTimer = s.renewTimer := by unfold enterIsolated; dsimp only; split <;> simp
@[simp] theorem enterIsolated_supplyLow (relearn : Bool) (s : State) : (enterIsolated relearn s).supplyLow = s.supplyLow := by unfold enterIsolated; dsimp only; split <;> simp
@[simp] theorem enterIsolated_droopHold (relearn : Bool) (s : State) : (enterIsolated relearn s).droopHold = s.droopHold := by unfold enterIsolated; dsimp only; split <;> simp
@[simp] theorem enterIsolated_recovery (relearn : Bool) (s : State) : (enterIsolated relearn s).recovery = s.recovery := by unfold enterIsolated; dsimp only; split <;> simp
@[simp] theorem enterIsolated_mask (relearn : Bool) (s : State) : (enterIsolated relearn s).mask = s.mask := by unfold enterIsolated; dsimp only; split <;> simp
@[simp] theorem enterIsolated_straddling (relearn : Bool) (s : State) : (enterIsolated relearn s).straddling = s.straddling := by unfold enterIsolated; dsimp only; split <;> simp
@[simp] theorem enterIsolated_reply (relearn : Bool) (s : State) : (enterIsolated relearn s).reply = s.reply := by unfold enterIsolated; dsimp only; split <;> simp
@[simp] theorem enterIsolated_fresh (relearn : Bool) (s : State) : (enterIsolated relearn s).fresh = s.fresh := by unfold enterIsolated; dsimp only; split <;> simp
@[simp] theorem enterIsolated_pending (relearn : Bool) (s : State) : (enterIsolated relearn s).pending = s.pending := by unfold enterIsolated; dsimp only; split <;> simp

/-- `enterIsolated` writes nothing else. -/
theorem enterIsolated_writes (relearn : Bool) (s : State) :
    enterIsolated relearn s = { s with
      mode := (enterIsolated relearn s).mode, holding := (enterIsolated relearn s).holding, target :=
      (enterIsolated relearn s).target, suppression := (enterIsolated relearn s).suppression, outbox :=
      (enterIsolated relearn s).outbox, censusRetry := (enterIsolated relearn s).censusRetry,
      joinCondition := (enterIsolated relearn s).joinCondition, windowCap := (enterIsolated relearn
      s).windowCap, muteWait := (enterIsolated relearn s).muteWait, level := (enterIsolated relearn
      s).level, rampTarget := (enterIsolated relearn s).rampTarget, settle := (enterIsolated relearn
      s).settle, overdrawRun := (enterIsolated relearn s).overdrawRun, underRun := (enterIsolated relearn
      s).underRun, under := (enterIsolated relearn s).under, latch := (enterIsolated relearn s).latch } := by
  apply State.ext <;> simp

/-! ### `enterFault` -/

@[simp] theorem enterFault_resetHeld (cause : FaultCause) (s : State) : (enterFault cause s).resetHeld = s.resetHeld := by unfold enterFault; dsimp only; split; rfl; split <;> simp
@[simp] theorem enterFault_oneTime (cause : FaultCause) (s : State) : (enterFault cause s).oneTime = s.oneTime := by unfold enterFault; dsimp only; split; rfl; split <;> simp
@[simp] theorem enterFault_writing (cause : FaultCause) (s : State) : (enterFault cause s).writing = s.writing := by unfold enterFault; dsimp only; split; rfl; split <;> simp
@[simp] theorem enterFault_written (cause : FaultCause) (s : State) : (enterFault cause s).written = s.written := by unfold enterFault; dsimp only; split; rfl; split <;> simp
@[simp] theorem enterFault_address (cause : FaultCause) (s : State) : (enterFault cause s).address = s.address := by unfold enterFault; dsimp only; split; rfl; split <;> simp
@[simp] theorem enterFault_record (cause : FaultCause) (s : State) : (enterFault cause s).record = s.record := by unfold enterFault; dsimp only; split; rfl; split <;> simp
@[simp] theorem enterFault_cause (cause : FaultCause) (s : State) : (enterFault cause s).cause = s.cause := by unfold enterFault; dsimp only; split; rfl; split <;> simp
@[simp] theorem enterFault_voidRun (cause : FaultCause) (s : State) : (enterFault cause s).voidRun = s.voidRun := by unfold enterFault; dsimp only; split; rfl; split <;> simp
@[simp] theorem enterFault_replicas (cause : FaultCause) (s : State) : (enterFault cause s).replicas = s.replicas := by unfold enterFault; dsimp only; split; rfl; split <;> simp
@[simp] theorem enterFault_ownAge (cause : FaultCause) (s : State) : (enterFault cause s).ownAge = s.ownAge := by unfold enterFault; dsimp only; split; rfl; split <;> simp
@[simp] theorem enterFault_requested (cause : FaultCause) (s : State) : (enterFault cause s).requested = s.requested := by unfold enterFault; dsimp only; split; rfl; split <;> simp
@[simp] theorem enterFault_synchronised (cause : FaultCause) (s : State) : (enterFault cause s).synchronised = s.synchronised := by unfold enterFault; dsimp only; split; rfl; split <;> simp
@[simp] theorem enterFault_highTime (cause : FaultCause) (s : State) : (enterFault cause s).highTime = s.highTime := by unfold enterFault; dsimp only; split; rfl; split <;> simp
@[simp] theorem enterFault_wakeArmed (cause : FaultCause) (s : State) : (enterFault cause s).wakeArmed = s.wakeArmed := by unfold enterFault; dsimp only; split; rfl; split <;> simp
@[simp] theorem enterFault_renewTimer (cause : FaultCause) (s : State) : (enterFault cause s).renewTimer = s.renewTimer := by unfold enterFault; dsimp only; split; rfl; split <;> simp
@[simp] theorem enterFault_supplyLow (cause : FaultCause) (s : State) : (enterFault cause s).supplyLow = s.supplyLow := by unfold enterFault; dsimp only; split; rfl; split <;> simp
@[simp] theorem enterFault_droopHold (cause : FaultCause) (s : State) : (enterFault cause s).droopHold = s.droopHold := by unfold enterFault; dsimp only; split; rfl; split <;> simp
@[simp] theorem enterFault_recovery (cause : FaultCause) (s : State) : (enterFault cause s).recovery = s.recovery := by unfold enterFault; dsimp only; split; rfl; split <;> simp
@[simp] theorem enterFault_mask (cause : FaultCause) (s : State) : (enterFault cause s).mask = s.mask := by unfold enterFault; dsimp only; split; rfl; split <;> simp
@[simp] theorem enterFault_straddling (cause : FaultCause) (s : State) : (enterFault cause s).straddling = s.straddling := by unfold enterFault; dsimp only; split; rfl; split <;> simp
@[simp] theorem enterFault_reply (cause : FaultCause) (s : State) : (enterFault cause s).reply = s.reply := by unfold enterFault; dsimp only; split; rfl; split <;> simp
@[simp] theorem enterFault_fresh (cause : FaultCause) (s : State) : (enterFault cause s).fresh = s.fresh := by unfold enterFault; dsimp only; split; rfl; split <;> simp
@[simp] theorem enterFault_pending (cause : FaultCause) (s : State) : (enterFault cause s).pending = s.pending := by unfold enterFault; dsimp only; split; rfl; split <;> simp

/-- `enterFault` writes nothing else. -/
theorem enterFault_writes (cause : FaultCause) (s : State) :
    enterFault cause s = { s with
      mode := (enterFault cause s).mode, faultCause := (enterFault cause s).faultCause, holding :=
      (enterFault cause s).holding, target := (enterFault cause s).target, suppression := (enterFault
      cause s).suppression, outbox := (enterFault cause s).outbox, censusRetry := (enterFault cause
      s).censusRetry, opening := (enterFault cause s).opening, frame := (enterFault cause s).frame,
      joinCondition := (enterFault cause s).joinCondition, lineLow := (enterFault cause s).lineLow,
      windowCap := (enterFault cause s).windowCap, muteWait := (enterFault cause s).muteWait, level :=
      (enterFault cause s).level, rampTarget := (enterFault cause s).rampTarget, settle := (enterFault
      cause s).settle, overdrawRun := (enterFault cause s).overdrawRun, underRun := (enterFault cause
      s).underRun, under := (enterFault cause s).under, latch := (enterFault cause s).latch } := by
  apply State.ext <;> simp

/-! ### `enterMute` -/

@[simp] theorem enterMute_resetHeld (s : State) : (enterMute s).resetHeld = s.resetHeld := by simp [enterMute]
@[simp] theorem enterMute_oneTime (s : State) : (enterMute s).oneTime = s.oneTime := by simp [enterMute]
@[simp] theorem enterMute_writing (s : State) : (enterMute s).writing = s.writing := by simp [enterMute]
@[simp] theorem enterMute_written (s : State) : (enterMute s).written = s.written := by simp [enterMute]
@[simp] theorem enterMute_address (s : State) : (enterMute s).address = s.address := by simp [enterMute]
@[simp] theorem enterMute_record (s : State) : (enterMute s).record = s.record := by simp [enterMute]
@[simp] theorem enterMute_cause (s : State) : (enterMute s).cause = s.cause := by simp [enterMute]
@[simp] theorem enterMute_faultCause (s : State) : (enterMute s).faultCause = s.faultCause := by simp [enterMute]
@[simp] theorem enterMute_voidRun (s : State) : (enterMute s).voidRun = s.voidRun := by simp [enterMute]
@[simp] theorem enterMute_replicas (s : State) : (enterMute s).replicas = s.replicas := by simp [enterMute]
@[simp] theorem enterMute_ownAge (s : State) : (enterMute s).ownAge = s.ownAge := by simp [enterMute]
@[simp] theorem enterMute_requested (s : State) : (enterMute s).requested = s.requested := by simp [enterMute]
@[simp] theorem enterMute_synchronised (s : State) : (enterMute s).synchronised = s.synchronised := by simp [enterMute]
@[simp] theorem enterMute_highTime (s : State) : (enterMute s).highTime = s.highTime := by simp [enterMute]
@[simp] theorem enterMute_wakeArmed (s : State) : (enterMute s).wakeArmed = s.wakeArmed := by simp [enterMute]
@[simp] theorem enterMute_renewTimer (s : State) : (enterMute s).renewTimer = s.renewTimer := by simp [enterMute]
@[simp] theorem enterMute_supplyLow (s : State) : (enterMute s).supplyLow = s.supplyLow := by simp [enterMute]
@[simp] theorem enterMute_droopHold (s : State) : (enterMute s).droopHold = s.droopHold := by simp [enterMute]
@[simp] theorem enterMute_recovery (s : State) : (enterMute s).recovery = s.recovery := by simp [enterMute]
@[simp] theorem enterMute_mask (s : State) : (enterMute s).mask = s.mask := by simp [enterMute]
@[simp] theorem enterMute_straddling (s : State) : (enterMute s).straddling = s.straddling := by simp [enterMute]
@[simp] theorem enterMute_reply (s : State) : (enterMute s).reply = s.reply := by simp [enterMute]
@[simp] theorem enterMute_fresh (s : State) : (enterMute s).fresh = s.fresh := by simp [enterMute]
@[simp] theorem enterMute_pending (s : State) : (enterMute s).pending = s.pending := by simp [enterMute]

/-- `enterMute` writes nothing else. -/
theorem enterMute_writes (s : State) :
    enterMute s = { s with
      mode := (enterMute s).mode, holding := (enterMute s).holding, target := (enterMute s).target,
      suppression := (enterMute s).suppression, outbox := (enterMute s).outbox, censusRetry := (enterMute
      s).censusRetry, opening := (enterMute s).opening, frame := (enterMute s).frame, joinCondition :=
      (enterMute s).joinCondition, lineLow := (enterMute s).lineLow, windowCap := (enterMute s).windowCap,
      muteWait := (enterMute s).muteWait, level := (enterMute s).level, rampTarget := (enterMute
      s).rampTarget, settle := (enterMute s).settle, overdrawRun := (enterMute s).overdrawRun, underRun :=
      (enterMute s).underRun, under := (enterMute s).under, latch := (enterMute s).latch } := by
  apply State.ext <;> simp

/-! ### `enterDormant` -/

@[simp] theorem enterDormant_resetHeld (s : State) : (enterDormant s).resetHeld = s.resetHeld := by simp [enterDormant]
@[simp] theorem enterDormant_oneTime (s : State) : (enterDormant s).oneTime = s.oneTime := by simp [enterDormant]
@[simp] theorem enterDormant_writing (s : State) : (enterDormant s).writing = s.writing := by simp [enterDormant]
@[simp] theorem enterDormant_written (s : State) : (enterDormant s).written = s.written := by simp [enterDormant]
@[simp] theorem enterDormant_address (s : State) : (enterDormant s).address = s.address := by simp [enterDormant]
@[simp] theorem enterDormant_record (s : State) : (enterDormant s).record = s.record := by simp [enterDormant]
@[simp] theorem enterDormant_cause (s : State) : (enterDormant s).cause = s.cause := by simp [enterDormant]
@[simp] theorem enterDormant_faultCause (s : State) : (enterDormant s).faultCause = s.faultCause := by simp [enterDormant]
@[simp] theorem enterDormant_voidRun (s : State) : (enterDormant s).voidRun = s.voidRun := by simp [enterDormant]
@[simp] theorem enterDormant_ownAge (s : State) : (enterDormant s).ownAge = s.ownAge := by simp [enterDormant]
@[simp] theorem enterDormant_requested (s : State) : (enterDormant s).requested = s.requested := by simp [enterDormant]
@[simp] theorem enterDormant_supplyLow (s : State) : (enterDormant s).supplyLow = s.supplyLow := by simp [enterDormant]
@[simp] theorem enterDormant_droopHold (s : State) : (enterDormant s).droopHold = s.droopHold := by simp [enterDormant]
@[simp] theorem enterDormant_recovery (s : State) : (enterDormant s).recovery = s.recovery := by simp [enterDormant]
@[simp] theorem enterDormant_mask (s : State) : (enterDormant s).mask = s.mask := by simp [enterDormant]
@[simp] theorem enterDormant_straddling (s : State) : (enterDormant s).straddling = s.straddling := by simp [enterDormant]
@[simp] theorem enterDormant_reply (s : State) : (enterDormant s).reply = s.reply := by simp [enterDormant]
@[simp] theorem enterDormant_fresh (s : State) : (enterDormant s).fresh = s.fresh := by simp [enterDormant]
@[simp] theorem enterDormant_pending (s : State) : (enterDormant s).pending = s.pending := by simp [enterDormant]

/-! ### `followTo` -/

@[simp] theorem followTo_resetHeld (r : FrameRecord) (now : Nat) (lows : List Low) (s : State) : (followTo r now lows s).resetHeld = s.resetHeld := by unfold followTo; dsimp only; split <;> rfl
@[simp] theorem followTo_oneTime (r : FrameRecord) (now : Nat) (lows : List Low) (s : State) : (followTo r now lows s).oneTime = s.oneTime := by unfold followTo; dsimp only; split <;> rfl
@[simp] theorem followTo_writing (r : FrameRecord) (now : Nat) (lows : List Low) (s : State) : (followTo r now lows s).writing = s.writing := by unfold followTo; dsimp only; split <;> rfl
@[simp] theorem followTo_written (r : FrameRecord) (now : Nat) (lows : List Low) (s : State) : (followTo r now lows s).written = s.written := by unfold followTo; dsimp only; split <;> rfl
@[simp] theorem followTo_address (r : FrameRecord) (now : Nat) (lows : List Low) (s : State) : (followTo r now lows s).address = s.address := by unfold followTo; dsimp only; split <;> rfl
@[simp] theorem followTo_record (r : FrameRecord) (now : Nat) (lows : List Low) (s : State) : (followTo r now lows s).record = s.record := by unfold followTo; dsimp only; split <;> rfl
@[simp] theorem followTo_cause (r : FrameRecord) (now : Nat) (lows : List Low) (s : State) : (followTo r now lows s).cause = s.cause := by unfold followTo; dsimp only; split <;> rfl
@[simp] theorem followTo_mode (r : FrameRecord) (now : Nat) (lows : List Low) (s : State) : (followTo r now lows s).mode = s.mode := by unfold followTo; dsimp only; split <;> rfl
@[simp] theorem followTo_faultCause (r : FrameRecord) (now : Nat) (lows : List Low) (s : State) : (followTo r now lows s).faultCause = s.faultCause := by unfold followTo; dsimp only; split <;> rfl
@[simp] theorem followTo_replicas (r : FrameRecord) (now : Nat) (lows : List Low) (s : State) : (followTo r now lows s).replicas = s.replicas := by unfold followTo; dsimp only; split <;> rfl
@[simp] theorem followTo_holding (r : FrameRecord) (now : Nat) (lows : List Low) (s : State) : (followTo r now lows s).holding = s.holding := by unfold followTo; dsimp only; split <;> rfl
@[simp] theorem followTo_ownAge (r : FrameRecord) (now : Nat) (lows : List Low) (s : State) : (followTo r now lows s).ownAge = s.ownAge := by unfold followTo; dsimp only; split <;> rfl
@[simp] theorem followTo_requested (r : FrameRecord) (now : Nat) (lows : List Low) (s : State) : (followTo r now lows s).requested = s.requested := by unfold followTo; dsimp only; split <;> rfl
@[simp] theorem followTo_target (r : FrameRecord) (now : Nat) (lows : List Low) (s : State) : (followTo r now lows s).target = s.target := by unfold followTo; dsimp only; split <;> rfl
@[simp] theorem followTo_suppression (r : FrameRecord) (now : Nat) (lows : List Low) (s : State) : (followTo r now lows s).suppression = s.suppression := by unfold followTo; dsimp only; split <;> rfl
@[simp] theorem followTo_outbox (r : FrameRecord) (now : Nat) (lows : List Low) (s : State) : (followTo r now lows s).outbox = s.outbox := by unfold followTo; dsimp only; split <;> rfl
@[simp] theorem followTo_censusRetry (r : FrameRecord) (now : Nat) (lows : List Low) (s : State) : (followTo r now lows s).censusRetry = s.censusRetry := by unfold followTo; dsimp only; split <;> rfl
@[simp] theorem followTo_synchronised (r : FrameRecord) (now : Nat) (lows : List Low) (s : State) : (followTo r now lows s).synchronised = s.synchronised := by unfold followTo; dsimp only; split <;> rfl
@[simp] theorem followTo_joinCondition (r : FrameRecord) (now : Nat) (lows : List Low) (s : State) : (followTo r now lows s).joinCondition = s.joinCondition := by unfold followTo; dsimp only; split <;> rfl
@[simp] theorem followTo_wakeArmed (r : FrameRecord) (now : Nat) (lows : List Low) (s : State) : (followTo r now lows s).wakeArmed = s.wakeArmed := by unfold followTo; dsimp only; split <;> rfl
@[simp] theorem followTo_renewTimer (r : FrameRecord) (now : Nat) (lows : List Low) (s : State) : (followTo r now lows s).renewTimer = s.renewTimer := by unfold followTo; dsimp only; split <;> rfl
@[simp] theorem followTo_windowCap (r : FrameRecord) (now : Nat) (lows : List Low) (s : State) : (followTo r now lows s).windowCap = s.windowCap := by unfold followTo; dsimp only; split <;> rfl
@[simp] theorem followTo_muteWait (r : FrameRecord) (now : Nat) (lows : List Low) (s : State) : (followTo r now lows s).muteWait = s.muteWait := by unfold followTo; dsimp only; split <;> rfl
@[simp] theorem followTo_level (r : FrameRecord) (now : Nat) (lows : List Low) (s : State) : (followTo r now lows s).level = s.level := by unfold followTo; dsimp only; split <;> rfl
@[simp] theorem followTo_rampTarget (r : FrameRecord) (now : Nat) (lows : List Low) (s : State) : (followTo r now lows s).rampTarget = s.rampTarget := by unfold followTo; dsimp only; split <;> rfl
@[simp] theorem followTo_settle (r : FrameRecord) (now : Nat) (lows : List Low) (s : State) : (followTo r now lows s).settle = s.settle := by unfold followTo; dsimp only; split <;> rfl
@[simp] theorem followTo_overdrawRun (r : FrameRecord) (now : Nat) (lows : List Low) (s : State) : (followTo r now lows s).overdrawRun = s.overdrawRun := by unfold followTo; dsimp only; split <;> rfl
@[simp] theorem followTo_underRun (r : FrameRecord) (now : Nat) (lows : List Low) (s : State) : (followTo r now lows s).underRun = s.underRun := by unfold followTo; dsimp only; split <;> rfl
@[simp] theorem followTo_under (r : FrameRecord) (now : Nat) (lows : List Low) (s : State) : (followTo r now lows s).under = s.under := by unfold followTo; dsimp only; split <;> rfl
@[simp] theorem followTo_supplyLow (r : FrameRecord) (now : Nat) (lows : List Low) (s : State) : (followTo r now lows s).supplyLow = s.supplyLow := by unfold followTo; dsimp only; split <;> rfl
@[simp] theorem followTo_droopHold (r : FrameRecord) (now : Nat) (lows : List Low) (s : State) : (followTo r now lows s).droopHold = s.droopHold := by unfold followTo; dsimp only; split <;> rfl
@[simp] theorem followTo_recovery (r : FrameRecord) (now : Nat) (lows : List Low) (s : State) : (followTo r now lows s).recovery = s.recovery := by unfold followTo; dsimp only; split <;> rfl
@[simp] theorem followTo_latch (r : FrameRecord) (now : Nat) (lows : List Low) (s : State) : (followTo r now lows s).latch = s.latch := by unfold followTo; dsimp only; split <;> rfl
@[simp] theorem followTo_mask (r : FrameRecord) (now : Nat) (lows : List Low) (s : State) : (followTo r now lows s).mask = s.mask := by unfold followTo; dsimp only; split <;> rfl
@[simp] theorem followTo_straddling (r : FrameRecord) (now : Nat) (lows : List Low) (s : State) : (followTo r now lows s).straddling = s.straddling := by unfold followTo; dsimp only; split <;> rfl
@[simp] theorem followTo_reply (r : FrameRecord) (now : Nat) (lows : List Low) (s : State) : (followTo r now lows s).reply = s.reply := by unfold followTo; dsimp only; split <;> rfl
@[simp] theorem followTo_fresh (r : FrameRecord) (now : Nat) (lows : List Low) (s : State) : (followTo r now lows s).fresh = s.fresh := by unfold followTo; dsimp only; split <;> rfl
@[simp] theorem followTo_pending (r : FrameRecord) (now : Nat) (lows : List Low) (s : State) : (followTo r now lows s).pending = s.pending := by unfold followTo; dsimp only; split <;> rfl

/-- `followTo` writes nothing else. -/
theorem followTo_writes (r : FrameRecord) (now : Nat) (lows : List Low) (s : State) :
    followTo r now lows s = { s with
      voidRun := (followTo r now lows s).voidRun, opening := (followTo r now lows s).opening, frame :=
      (followTo r now lows s).frame, highTime := (followTo r now lows s).highTime, lineLow := (followTo r
      now lows s).lineLow } := by
  apply State.ext <;> simp

/-! ### `applyVerdict` -/

@[simp] theorem applyVerdict_resetHeld (r : FrameRecord) (s : State) : (applyVerdict r s).resetHeld = s.resetHeld := by unfold applyVerdict; split; simp; (split <;> simp); (split; (split <;> simp); rfl); rfl; rfl
@[simp] theorem applyVerdict_oneTime (r : FrameRecord) (s : State) : (applyVerdict r s).oneTime = s.oneTime := by unfold applyVerdict; split; simp; (split <;> simp); (split; (split <;> simp); rfl); rfl; rfl
@[simp] theorem applyVerdict_writing (r : FrameRecord) (s : State) : (applyVerdict r s).writing = s.writing := by unfold applyVerdict; split; simp; (split <;> simp); (split; (split <;> simp); rfl); rfl; rfl
@[simp] theorem applyVerdict_written (r : FrameRecord) (s : State) : (applyVerdict r s).written = s.written := by unfold applyVerdict; split; simp; (split <;> simp); (split; (split <;> simp); rfl); rfl; rfl
@[simp] theorem applyVerdict_address (r : FrameRecord) (s : State) : (applyVerdict r s).address = s.address := by unfold applyVerdict; split; simp; (split <;> simp); (split; (split <;> simp); rfl); rfl; rfl
@[simp] theorem applyVerdict_record (r : FrameRecord) (s : State) : (applyVerdict r s).record = s.record := by unfold applyVerdict; split; simp; (split <;> simp); (split; (split <;> simp); rfl); rfl; rfl
@[simp] theorem applyVerdict_cause (r : FrameRecord) (s : State) : (applyVerdict r s).cause = s.cause := by unfold applyVerdict; split; simp; (split <;> simp); (split; (split <;> simp); rfl); rfl; rfl
@[simp] theorem applyVerdict_voidRun (r : FrameRecord) (s : State) : (applyVerdict r s).voidRun = s.voidRun := by unfold applyVerdict; split; simp; (split <;> simp); (split; (split <;> simp); rfl); rfl; rfl
@[simp] theorem applyVerdict_ownAge (r : FrameRecord) (s : State) : (applyVerdict r s).ownAge = s.ownAge := by unfold applyVerdict; split; simp; (split <;> simp); (split; (split <;> simp); rfl); rfl; rfl
@[simp] theorem applyVerdict_requested (r : FrameRecord) (s : State) : (applyVerdict r s).requested = s.requested := by unfold applyVerdict; split; simp; (split <;> simp); (split; (split <;> simp); rfl); rfl; rfl
@[simp] theorem applyVerdict_synchronised (r : FrameRecord) (s : State) : (applyVerdict r s).synchronised = s.synchronised := by unfold applyVerdict; split; simp; (split <;> simp); (split; (split <;> simp); rfl); rfl; rfl
@[simp] theorem applyVerdict_highTime (r : FrameRecord) (s : State) : (applyVerdict r s).highTime = s.highTime := by unfold applyVerdict; split; simp; (split <;> simp); (split; (split <;> simp); rfl); rfl; rfl
@[simp] theorem applyVerdict_wakeArmed (r : FrameRecord) (s : State) : (applyVerdict r s).wakeArmed = s.wakeArmed := by unfold applyVerdict; split; simp; (split <;> simp); (split; (split <;> simp); rfl); rfl; rfl
@[simp] theorem applyVerdict_renewTimer (r : FrameRecord) (s : State) : (applyVerdict r s).renewTimer = s.renewTimer := by unfold applyVerdict; split; simp; (split <;> simp); (split; (split <;> simp); rfl); rfl; rfl
@[simp] theorem applyVerdict_supplyLow (r : FrameRecord) (s : State) : (applyVerdict r s).supplyLow = s.supplyLow := by unfold applyVerdict; split; simp; (split <;> simp); (split; (split <;> simp); rfl); rfl; rfl
@[simp] theorem applyVerdict_droopHold (r : FrameRecord) (s : State) : (applyVerdict r s).droopHold = s.droopHold := by unfold applyVerdict; split; simp; (split <;> simp); (split; (split <;> simp); rfl); rfl; rfl
@[simp] theorem applyVerdict_recovery (r : FrameRecord) (s : State) : (applyVerdict r s).recovery = s.recovery := by unfold applyVerdict; split; simp; (split <;> simp); (split; (split <;> simp); rfl); rfl; rfl
@[simp] theorem applyVerdict_mask (r : FrameRecord) (s : State) : (applyVerdict r s).mask = s.mask := by unfold applyVerdict; split; simp; (split <;> simp); (split; (split <;> simp); rfl); rfl; rfl
@[simp] theorem applyVerdict_straddling (r : FrameRecord) (s : State) : (applyVerdict r s).straddling = s.straddling := by unfold applyVerdict; split; simp; (split <;> simp); (split; (split <;> simp); rfl); rfl; rfl
@[simp] theorem applyVerdict_reply (r : FrameRecord) (s : State) : (applyVerdict r s).reply = s.reply := by unfold applyVerdict; split; simp; (split <;> simp); (split; (split <;> simp); rfl); rfl; rfl
@[simp] theorem applyVerdict_fresh (r : FrameRecord) (s : State) : (applyVerdict r s).fresh = s.fresh := by unfold applyVerdict; split; simp; (split <;> simp); (split; (split <;> simp); rfl); rfl; rfl
@[simp] theorem applyVerdict_pending (r : FrameRecord) (s : State) : (applyVerdict r s).pending = s.pending := by unfold applyVerdict; split; simp; (split <;> simp); (split; (split <;> simp); rfl); rfl; rfl

/-- `applyVerdict` writes nothing else. -/
theorem applyVerdict_writes (r : FrameRecord) (s : State) :
    applyVerdict r s = { s with
      mode := (applyVerdict r s).mode, faultCause := (applyVerdict r s).faultCause, replicas :=
      (applyVerdict r s).replicas, holding := (applyVerdict r s).holding, target := (applyVerdict r
      s).target, suppression := (applyVerdict r s).suppression, outbox := (applyVerdict r s).outbox,
      censusRetry := (applyVerdict r s).censusRetry, opening := (applyVerdict r s).opening, frame :=
      (applyVerdict r s).frame, joinCondition := (applyVerdict r s).joinCondition, lineLow :=
      (applyVerdict r s).lineLow, windowCap := (applyVerdict r s).windowCap, muteWait := (applyVerdict r
      s).muteWait, level := (applyVerdict r s).level, rampTarget := (applyVerdict r s).rampTarget, settle
      := (applyVerdict r s).settle, overdrawRun := (applyVerdict r s).overdrawRun, underRun :=
      (applyVerdict r s).underRun, under := (applyVerdict r s).under, latch := (applyVerdict r s).latch } := by
  apply State.ext <;> simp

/-! ### `endFollowed` -/

@[simp] theorem endFollowed_resetHeld (s : State) : (endFollowed s).resetHeld = s.resetHeld := by unfold endFollowed; split; rfl; dsimp only; split <;> simp
@[simp] theorem endFollowed_oneTime (s : State) : (endFollowed s).oneTime = s.oneTime := by unfold endFollowed; split; rfl; dsimp only; split <;> simp
@[simp] theorem endFollowed_writing (s : State) : (endFollowed s).writing = s.writing := by unfold endFollowed; split; rfl; dsimp only; split <;> simp
@[simp] theorem endFollowed_written (s : State) : (endFollowed s).written = s.written := by unfold endFollowed; split; rfl; dsimp only; split <;> simp
@[simp] theorem endFollowed_address (s : State) : (endFollowed s).address = s.address := by unfold endFollowed; split; rfl; dsimp only; split <;> simp
@[simp] theorem endFollowed_record (s : State) : (endFollowed s).record = s.record := by unfold endFollowed; split; rfl; dsimp only; split <;> simp
@[simp] theorem endFollowed_cause (s : State) : (endFollowed s).cause = s.cause := by unfold endFollowed; split; rfl; dsimp only; split <;> simp
@[simp] theorem endFollowed_voidRun (s : State) : (endFollowed s).voidRun = s.voidRun := by unfold endFollowed; split; rfl; dsimp only; split <;> simp
@[simp] theorem endFollowed_ownAge (s : State) : (endFollowed s).ownAge = s.ownAge := by unfold endFollowed; split; rfl; dsimp only; split <;> simp
@[simp] theorem endFollowed_requested (s : State) : (endFollowed s).requested = s.requested := by unfold endFollowed; split; rfl; dsimp only; split <;> simp
@[simp] theorem endFollowed_wakeArmed (s : State) : (endFollowed s).wakeArmed = s.wakeArmed := by unfold endFollowed; split; rfl; dsimp only; split <;> simp
@[simp] theorem endFollowed_renewTimer (s : State) : (endFollowed s).renewTimer = s.renewTimer := by unfold endFollowed; split; rfl; dsimp only; split <;> simp
@[simp] theorem endFollowed_supplyLow (s : State) : (endFollowed s).supplyLow = s.supplyLow := by unfold endFollowed; split; rfl; dsimp only; split <;> simp
@[simp] theorem endFollowed_droopHold (s : State) : (endFollowed s).droopHold = s.droopHold := by unfold endFollowed; split; rfl; dsimp only; split <;> simp
@[simp] theorem endFollowed_recovery (s : State) : (endFollowed s).recovery = s.recovery := by unfold endFollowed; split; rfl; dsimp only; split <;> simp
@[simp] theorem endFollowed_mask (s : State) : (endFollowed s).mask = s.mask := by unfold endFollowed; split; rfl; dsimp only; split <;> simp
@[simp] theorem endFollowed_straddling (s : State) : (endFollowed s).straddling = s.straddling := by unfold endFollowed; split; rfl; dsimp only; split <;> simp
@[simp] theorem endFollowed_reply (s : State) : (endFollowed s).reply = s.reply := by unfold endFollowed; split; rfl; dsimp only; split <;> simp
@[simp] theorem endFollowed_fresh (s : State) : (endFollowed s).fresh = s.fresh := by unfold endFollowed; split; rfl; dsimp only; split <;> simp
@[simp] theorem endFollowed_pending (s : State) : (endFollowed s).pending = s.pending := by unfold endFollowed; split; rfl; dsimp only; split <;> simp

/-- `endFollowed` writes nothing else. -/
theorem endFollowed_writes (s : State) :
    endFollowed s = { s with
      mode := (endFollowed s).mode, faultCause := (endFollowed s).faultCause, replicas := (endFollowed
      s).replicas, holding := (endFollowed s).holding, target := (endFollowed s).target, suppression :=
      (endFollowed s).suppression, outbox := (endFollowed s).outbox, censusRetry := (endFollowed
      s).censusRetry, opening := (endFollowed s).opening, frame := (endFollowed s).frame, synchronised :=
      (endFollowed s).synchronised, joinCondition := (endFollowed s).joinCondition, highTime :=
      (endFollowed s).highTime, lineLow := (endFollowed s).lineLow, windowCap := (endFollowed
      s).windowCap, muteWait := (endFollowed s).muteWait, level := (endFollowed s).level, rampTarget :=
      (endFollowed s).rampTarget, settle := (endFollowed s).settle, overdrawRun := (endFollowed
      s).overdrawRun, underRun := (endFollowed s).underRun, under := (endFollowed s).under, latch :=
      (endFollowed s).latch } := by
  apply State.ext <;> simp

/-! ### `loseArbitration` -/

@[simp] theorem loseArbitration_resetHeld (r : FrameRecord) (sent : SentFrame) (k : Nat) (lows : List Low) (s : State) : (loseArbitration r sent k lows s).resetHeld = s.resetHeld := by simp [loseArbitration]
@[simp] theorem loseArbitration_oneTime (r : FrameRecord) (sent : SentFrame) (k : Nat) (lows : List Low) (s : State) : (loseArbitration r sent k lows s).oneTime = s.oneTime := by simp [loseArbitration]
@[simp] theorem loseArbitration_writing (r : FrameRecord) (sent : SentFrame) (k : Nat) (lows : List Low) (s : State) : (loseArbitration r sent k lows s).writing = s.writing := by simp [loseArbitration]
@[simp] theorem loseArbitration_written (r : FrameRecord) (sent : SentFrame) (k : Nat) (lows : List Low) (s : State) : (loseArbitration r sent k lows s).written = s.written := by simp [loseArbitration]
@[simp] theorem loseArbitration_address (r : FrameRecord) (sent : SentFrame) (k : Nat) (lows : List Low) (s : State) : (loseArbitration r sent k lows s).address = s.address := by simp [loseArbitration]
@[simp] theorem loseArbitration_record (r : FrameRecord) (sent : SentFrame) (k : Nat) (lows : List Low) (s : State) : (loseArbitration r sent k lows s).record = s.record := by simp [loseArbitration]
@[simp] theorem loseArbitration_cause (r : FrameRecord) (sent : SentFrame) (k : Nat) (lows : List Low) (s : State) : (loseArbitration r sent k lows s).cause = s.cause := by simp [loseArbitration]
@[simp] theorem loseArbitration_mode (r : FrameRecord) (sent : SentFrame) (k : Nat) (lows : List Low) (s : State) : (loseArbitration r sent k lows s).mode = s.mode := by simp [loseArbitration]
@[simp] theorem loseArbitration_faultCause (r : FrameRecord) (sent : SentFrame) (k : Nat) (lows : List Low) (s : State) : (loseArbitration r sent k lows s).faultCause = s.faultCause := by simp [loseArbitration]
@[simp] theorem loseArbitration_voidRun (r : FrameRecord) (sent : SentFrame) (k : Nat) (lows : List Low) (s : State) : (loseArbitration r sent k lows s).voidRun = s.voidRun := by simp [loseArbitration]
@[simp] theorem loseArbitration_replicas (r : FrameRecord) (sent : SentFrame) (k : Nat) (lows : List Low) (s : State) : (loseArbitration r sent k lows s).replicas = s.replicas := by simp [loseArbitration]
@[simp] theorem loseArbitration_holding (r : FrameRecord) (sent : SentFrame) (k : Nat) (lows : List Low) (s : State) : (loseArbitration r sent k lows s).holding = s.holding := by simp [loseArbitration]
@[simp] theorem loseArbitration_ownAge (r : FrameRecord) (sent : SentFrame) (k : Nat) (lows : List Low) (s : State) : (loseArbitration r sent k lows s).ownAge = s.ownAge := by simp [loseArbitration]
@[simp] theorem loseArbitration_requested (r : FrameRecord) (sent : SentFrame) (k : Nat) (lows : List Low) (s : State) : (loseArbitration r sent k lows s).requested = s.requested := by simp [loseArbitration]
@[simp] theorem loseArbitration_target (r : FrameRecord) (sent : SentFrame) (k : Nat) (lows : List Low) (s : State) : (loseArbitration r sent k lows s).target = s.target := by simp [loseArbitration]
@[simp] theorem loseArbitration_synchronised (r : FrameRecord) (sent : SentFrame) (k : Nat) (lows : List Low) (s : State) : (loseArbitration r sent k lows s).synchronised = s.synchronised := by simp [loseArbitration]
@[simp] theorem loseArbitration_joinCondition (r : FrameRecord) (sent : SentFrame) (k : Nat) (lows : List Low) (s : State) : (loseArbitration r sent k lows s).joinCondition = s.joinCondition := by simp [loseArbitration]
@[simp] theorem loseArbitration_wakeArmed (r : FrameRecord) (sent : SentFrame) (k : Nat) (lows : List Low) (s : State) : (loseArbitration r sent k lows s).wakeArmed = s.wakeArmed := by simp [loseArbitration]
@[simp] theorem loseArbitration_renewTimer (r : FrameRecord) (sent : SentFrame) (k : Nat) (lows : List Low) (s : State) : (loseArbitration r sent k lows s).renewTimer = s.renewTimer := by simp [loseArbitration]
@[simp] theorem loseArbitration_windowCap (r : FrameRecord) (sent : SentFrame) (k : Nat) (lows : List Low) (s : State) : (loseArbitration r sent k lows s).windowCap = s.windowCap := by simp [loseArbitration]
@[simp] theorem loseArbitration_muteWait (r : FrameRecord) (sent : SentFrame) (k : Nat) (lows : List Low) (s : State) : (loseArbitration r sent k lows s).muteWait = s.muteWait := by simp [loseArbitration]
@[simp] theorem loseArbitration_level (r : FrameRecord) (sent : SentFrame) (k : Nat) (lows : List Low) (s : State) : (loseArbitration r sent k lows s).level = s.level := by simp [loseArbitration]
@[simp] theorem loseArbitration_rampTarget (r : FrameRecord) (sent : SentFrame) (k : Nat) (lows : List Low) (s : State) : (loseArbitration r sent k lows s).rampTarget = s.rampTarget := by simp [loseArbitration]
@[simp] theorem loseArbitration_settle (r : FrameRecord) (sent : SentFrame) (k : Nat) (lows : List Low) (s : State) : (loseArbitration r sent k lows s).settle = s.settle := by simp [loseArbitration]
@[simp] theorem loseArbitration_overdrawRun (r : FrameRecord) (sent : SentFrame) (k : Nat) (lows : List Low) (s : State) : (loseArbitration r sent k lows s).overdrawRun = s.overdrawRun := by simp [loseArbitration]
@[simp] theorem loseArbitration_underRun (r : FrameRecord) (sent : SentFrame) (k : Nat) (lows : List Low) (s : State) : (loseArbitration r sent k lows s).underRun = s.underRun := by simp [loseArbitration]
@[simp] theorem loseArbitration_under (r : FrameRecord) (sent : SentFrame) (k : Nat) (lows : List Low) (s : State) : (loseArbitration r sent k lows s).under = s.under := by simp [loseArbitration]
@[simp] theorem loseArbitration_supplyLow (r : FrameRecord) (sent : SentFrame) (k : Nat) (lows : List Low) (s : State) : (loseArbitration r sent k lows s).supplyLow = s.supplyLow := by simp [loseArbitration]
@[simp] theorem loseArbitration_droopHold (r : FrameRecord) (sent : SentFrame) (k : Nat) (lows : List Low) (s : State) : (loseArbitration r sent k lows s).droopHold = s.droopHold := by simp [loseArbitration]
@[simp] theorem loseArbitration_recovery (r : FrameRecord) (sent : SentFrame) (k : Nat) (lows : List Low) (s : State) : (loseArbitration r sent k lows s).recovery = s.recovery := by simp [loseArbitration]
@[simp] theorem loseArbitration_mask (r : FrameRecord) (sent : SentFrame) (k : Nat) (lows : List Low) (s : State) : (loseArbitration r sent k lows s).mask = s.mask := by simp [loseArbitration]
@[simp] theorem loseArbitration_straddling (r : FrameRecord) (sent : SentFrame) (k : Nat) (lows : List Low) (s : State) : (loseArbitration r sent k lows s).straddling = s.straddling := by simp [loseArbitration]
@[simp] theorem loseArbitration_reply (r : FrameRecord) (sent : SentFrame) (k : Nat) (lows : List Low) (s : State) : (loseArbitration r sent k lows s).reply = s.reply := by simp [loseArbitration]
@[simp] theorem loseArbitration_fresh (r : FrameRecord) (sent : SentFrame) (k : Nat) (lows : List Low) (s : State) : (loseArbitration r sent k lows s).fresh = s.fresh := by simp [loseArbitration]
@[simp] theorem loseArbitration_pending (r : FrameRecord) (sent : SentFrame) (k : Nat) (lows : List Low) (s : State) : (loseArbitration r sent k lows s).pending = s.pending := by simp [loseArbitration]

/-- `loseArbitration` writes nothing else. -/
theorem loseArbitration_writes (r : FrameRecord) (sent : SentFrame) (k : Nat) (lows : List Low) (s : State) :
    loseArbitration r sent k lows s = { s with
      suppression := (loseArbitration r sent k lows s).suppression, outbox := (loseArbitration r sent k
      lows s).outbox, censusRetry := (loseArbitration r sent k lows s).censusRetry, opening :=
      (loseArbitration r sent k lows s).opening, frame := (loseArbitration r sent k lows s).frame,
      highTime := (loseArbitration r sent k lows s).highTime, lineLow := (loseArbitration r sent k lows
      s).lineLow, latch := (loseArbitration r sent k lows s).latch } := by
  apply State.ext <;> simp

/-! ### `sendTo` -/

@[simp] theorem sendTo_resetHeld (r : FrameRecord) (sent : SentFrame) (now : Nat) (lows : List Low) (s : State) : (sendTo r sent now lows s).resetHeld = s.resetHeld := by unfold sendTo; split <;> simp
@[simp] theorem sendTo_oneTime (r : FrameRecord) (sent : SentFrame) (now : Nat) (lows : List Low) (s : State) : (sendTo r sent now lows s).oneTime = s.oneTime := by unfold sendTo; split <;> simp
@[simp] theorem sendTo_writing (r : FrameRecord) (sent : SentFrame) (now : Nat) (lows : List Low) (s : State) : (sendTo r sent now lows s).writing = s.writing := by unfold sendTo; split <;> simp
@[simp] theorem sendTo_written (r : FrameRecord) (sent : SentFrame) (now : Nat) (lows : List Low) (s : State) : (sendTo r sent now lows s).written = s.written := by unfold sendTo; split <;> simp
@[simp] theorem sendTo_address (r : FrameRecord) (sent : SentFrame) (now : Nat) (lows : List Low) (s : State) : (sendTo r sent now lows s).address = s.address := by unfold sendTo; split <;> simp
@[simp] theorem sendTo_record (r : FrameRecord) (sent : SentFrame) (now : Nat) (lows : List Low) (s : State) : (sendTo r sent now lows s).record = s.record := by unfold sendTo; split <;> simp
@[simp] theorem sendTo_cause (r : FrameRecord) (sent : SentFrame) (now : Nat) (lows : List Low) (s : State) : (sendTo r sent now lows s).cause = s.cause := by unfold sendTo; split <;> simp
@[simp] theorem sendTo_mode (r : FrameRecord) (sent : SentFrame) (now : Nat) (lows : List Low) (s : State) : (sendTo r sent now lows s).mode = s.mode := by unfold sendTo; split <;> simp
@[simp] theorem sendTo_faultCause (r : FrameRecord) (sent : SentFrame) (now : Nat) (lows : List Low) (s : State) : (sendTo r sent now lows s).faultCause = s.faultCause := by unfold sendTo; split <;> simp
@[simp] theorem sendTo_voidRun (r : FrameRecord) (sent : SentFrame) (now : Nat) (lows : List Low) (s : State) : (sendTo r sent now lows s).voidRun = s.voidRun := by unfold sendTo; split <;> simp
@[simp] theorem sendTo_replicas (r : FrameRecord) (sent : SentFrame) (now : Nat) (lows : List Low) (s : State) : (sendTo r sent now lows s).replicas = s.replicas := by unfold sendTo; split <;> simp
@[simp] theorem sendTo_holding (r : FrameRecord) (sent : SentFrame) (now : Nat) (lows : List Low) (s : State) : (sendTo r sent now lows s).holding = s.holding := by unfold sendTo; split <;> simp
@[simp] theorem sendTo_ownAge (r : FrameRecord) (sent : SentFrame) (now : Nat) (lows : List Low) (s : State) : (sendTo r sent now lows s).ownAge = s.ownAge := by unfold sendTo; split <;> simp
@[simp] theorem sendTo_requested (r : FrameRecord) (sent : SentFrame) (now : Nat) (lows : List Low) (s : State) : (sendTo r sent now lows s).requested = s.requested := by unfold sendTo; split <;> simp
@[simp] theorem sendTo_target (r : FrameRecord) (sent : SentFrame) (now : Nat) (lows : List Low) (s : State) : (sendTo r sent now lows s).target = s.target := by unfold sendTo; split <;> simp
@[simp] theorem sendTo_synchronised (r : FrameRecord) (sent : SentFrame) (now : Nat) (lows : List Low) (s : State) : (sendTo r sent now lows s).synchronised = s.synchronised := by unfold sendTo; split <;> simp
@[simp] theorem sendTo_joinCondition (r : FrameRecord) (sent : SentFrame) (now : Nat) (lows : List Low) (s : State) : (sendTo r sent now lows s).joinCondition = s.joinCondition := by unfold sendTo; split <;> simp
@[simp] theorem sendTo_wakeArmed (r : FrameRecord) (sent : SentFrame) (now : Nat) (lows : List Low) (s : State) : (sendTo r sent now lows s).wakeArmed = s.wakeArmed := by unfold sendTo; split <;> simp
@[simp] theorem sendTo_renewTimer (r : FrameRecord) (sent : SentFrame) (now : Nat) (lows : List Low) (s : State) : (sendTo r sent now lows s).renewTimer = s.renewTimer := by unfold sendTo; split <;> simp
@[simp] theorem sendTo_windowCap (r : FrameRecord) (sent : SentFrame) (now : Nat) (lows : List Low) (s : State) : (sendTo r sent now lows s).windowCap = s.windowCap := by unfold sendTo; split <;> simp
@[simp] theorem sendTo_muteWait (r : FrameRecord) (sent : SentFrame) (now : Nat) (lows : List Low) (s : State) : (sendTo r sent now lows s).muteWait = s.muteWait := by unfold sendTo; split <;> simp
@[simp] theorem sendTo_level (r : FrameRecord) (sent : SentFrame) (now : Nat) (lows : List Low) (s : State) : (sendTo r sent now lows s).level = s.level := by unfold sendTo; split <;> simp
@[simp] theorem sendTo_rampTarget (r : FrameRecord) (sent : SentFrame) (now : Nat) (lows : List Low) (s : State) : (sendTo r sent now lows s).rampTarget = s.rampTarget := by unfold sendTo; split <;> simp
@[simp] theorem sendTo_settle (r : FrameRecord) (sent : SentFrame) (now : Nat) (lows : List Low) (s : State) : (sendTo r sent now lows s).settle = s.settle := by unfold sendTo; split <;> simp
@[simp] theorem sendTo_overdrawRun (r : FrameRecord) (sent : SentFrame) (now : Nat) (lows : List Low) (s : State) : (sendTo r sent now lows s).overdrawRun = s.overdrawRun := by unfold sendTo; split <;> simp
@[simp] theorem sendTo_underRun (r : FrameRecord) (sent : SentFrame) (now : Nat) (lows : List Low) (s : State) : (sendTo r sent now lows s).underRun = s.underRun := by unfold sendTo; split <;> simp
@[simp] theorem sendTo_under (r : FrameRecord) (sent : SentFrame) (now : Nat) (lows : List Low) (s : State) : (sendTo r sent now lows s).under = s.under := by unfold sendTo; split <;> simp
@[simp] theorem sendTo_supplyLow (r : FrameRecord) (sent : SentFrame) (now : Nat) (lows : List Low) (s : State) : (sendTo r sent now lows s).supplyLow = s.supplyLow := by unfold sendTo; split <;> simp
@[simp] theorem sendTo_droopHold (r : FrameRecord) (sent : SentFrame) (now : Nat) (lows : List Low) (s : State) : (sendTo r sent now lows s).droopHold = s.droopHold := by unfold sendTo; split <;> simp
@[simp] theorem sendTo_recovery (r : FrameRecord) (sent : SentFrame) (now : Nat) (lows : List Low) (s : State) : (sendTo r sent now lows s).recovery = s.recovery := by unfold sendTo; split <;> simp
@[simp] theorem sendTo_mask (r : FrameRecord) (sent : SentFrame) (now : Nat) (lows : List Low) (s : State) : (sendTo r sent now lows s).mask = s.mask := by unfold sendTo; split <;> simp
@[simp] theorem sendTo_straddling (r : FrameRecord) (sent : SentFrame) (now : Nat) (lows : List Low) (s : State) : (sendTo r sent now lows s).straddling = s.straddling := by unfold sendTo; split <;> simp
@[simp] theorem sendTo_reply (r : FrameRecord) (sent : SentFrame) (now : Nat) (lows : List Low) (s : State) : (sendTo r sent now lows s).reply = s.reply := by unfold sendTo; split <;> simp
@[simp] theorem sendTo_fresh (r : FrameRecord) (sent : SentFrame) (now : Nat) (lows : List Low) (s : State) : (sendTo r sent now lows s).fresh = s.fresh := by unfold sendTo; split <;> simp
@[simp] theorem sendTo_pending (r : FrameRecord) (sent : SentFrame) (now : Nat) (lows : List Low) (s : State) : (sendTo r sent now lows s).pending = s.pending := by unfold sendTo; split <;> simp

/-- `sendTo` writes nothing else. -/
theorem sendTo_writes (r : FrameRecord) (sent : SentFrame) (now : Nat) (lows : List Low) (s : State) :
    sendTo r sent now lows s = { s with
      suppression := (sendTo r sent now lows s).suppression, outbox := (sendTo r sent now lows s).outbox,
      censusRetry := (sendTo r sent now lows s).censusRetry, opening := (sendTo r sent now lows
      s).opening, frame := (sendTo r sent now lows s).frame, highTime := (sendTo r sent now lows
      s).highTime, lineLow := (sendTo r sent now lows s).lineLow, latch := (sendTo r sent now lows
      s).latch } := by
  apply State.ext <;> simp

/-! ### `acceptOwnFrame` -/

@[simp] theorem acceptOwnFrame_resetHeld (f : FrameFields) (s : State) : (acceptOwnFrame f s).resetHeld = s.resetHeld := by unfold acceptOwnFrame; dsimp only; split; rfl; rfl; (split; simp; split <;> simp; simp); split <;> simp
@[simp] theorem acceptOwnFrame_oneTime (f : FrameFields) (s : State) : (acceptOwnFrame f s).oneTime = s.oneTime := by unfold acceptOwnFrame; dsimp only; split; rfl; rfl; (split; simp; split <;> simp; simp); split <;> simp
@[simp] theorem acceptOwnFrame_writing (f : FrameFields) (s : State) : (acceptOwnFrame f s).writing = s.writing := by unfold acceptOwnFrame; dsimp only; split; rfl; rfl; (split; simp; split <;> simp; simp); split <;> simp
@[simp] theorem acceptOwnFrame_written (f : FrameFields) (s : State) : (acceptOwnFrame f s).written = s.written := by unfold acceptOwnFrame; dsimp only; split; rfl; rfl; (split; simp; split <;> simp; simp); split <;> simp
@[simp] theorem acceptOwnFrame_address (f : FrameFields) (s : State) : (acceptOwnFrame f s).address = s.address := by unfold acceptOwnFrame; dsimp only; split; rfl; rfl; (split; simp; split <;> simp; simp); split <;> simp
@[simp] theorem acceptOwnFrame_record (f : FrameFields) (s : State) : (acceptOwnFrame f s).record = s.record := by unfold acceptOwnFrame; dsimp only; split; rfl; rfl; (split; simp; split <;> simp; simp); split <;> simp
@[simp] theorem acceptOwnFrame_cause (f : FrameFields) (s : State) : (acceptOwnFrame f s).cause = s.cause := by unfold acceptOwnFrame; dsimp only; split; rfl; rfl; (split; simp; split <;> simp; simp); split <;> simp
@[simp] theorem acceptOwnFrame_faultCause (f : FrameFields) (s : State) : (acceptOwnFrame f s).faultCause = s.faultCause := by unfold acceptOwnFrame; dsimp only; split; rfl; rfl; (split; simp; split <;> simp; simp); split <;> simp
@[simp] theorem acceptOwnFrame_voidRun (f : FrameFields) (s : State) : (acceptOwnFrame f s).voidRun = s.voidRun := by unfold acceptOwnFrame; dsimp only; split; rfl; rfl; (split; simp; split <;> simp; simp); split <;> simp
@[simp] theorem acceptOwnFrame_replicas (f : FrameFields) (s : State) : (acceptOwnFrame f s).replicas = s.replicas := by unfold acceptOwnFrame; dsimp only; split; rfl; rfl; (split; simp; split <;> simp; simp); split <;> simp
@[simp] theorem acceptOwnFrame_requested (f : FrameFields) (s : State) : (acceptOwnFrame f s).requested = s.requested := by unfold acceptOwnFrame; dsimp only; split; rfl; rfl; (split; simp; split <;> simp; simp); split <;> simp
@[simp] theorem acceptOwnFrame_opening (f : FrameFields) (s : State) : (acceptOwnFrame f s).opening = s.opening := by unfold acceptOwnFrame; dsimp only; split; rfl; rfl; (split; simp; split <;> simp; simp); split <;> simp
@[simp] theorem acceptOwnFrame_frame (f : FrameFields) (s : State) : (acceptOwnFrame f s).frame = s.frame := by unfold acceptOwnFrame; dsimp only; split; rfl; rfl; (split; simp; split <;> simp; simp); split <;> simp
@[simp] theorem acceptOwnFrame_synchronised (f : FrameFields) (s : State) : (acceptOwnFrame f s).synchronised = s.synchronised := by unfold acceptOwnFrame; dsimp only; split; rfl; rfl; (split; simp; split <;> simp; simp); split <;> simp
@[simp] theorem acceptOwnFrame_lineLow (f : FrameFields) (s : State) : (acceptOwnFrame f s).lineLow = s.lineLow := by unfold acceptOwnFrame; dsimp only; split; rfl; rfl; (split; simp; split <;> simp; simp); split <;> simp
@[simp] theorem acceptOwnFrame_wakeArmed (f : FrameFields) (s : State) : (acceptOwnFrame f s).wakeArmed = s.wakeArmed := by unfold acceptOwnFrame; dsimp only; split; rfl; rfl; (split; simp; split <;> simp; simp); split <;> simp
@[simp] theorem acceptOwnFrame_muteWait (f : FrameFields) (s : State) : (acceptOwnFrame f s).muteWait = s.muteWait := by unfold acceptOwnFrame; dsimp only; split; rfl; rfl; (split; simp; split <;> simp; simp); split <;> simp
@[simp] theorem acceptOwnFrame_supplyLow (f : FrameFields) (s : State) : (acceptOwnFrame f s).supplyLow = s.supplyLow := by unfold acceptOwnFrame; dsimp only; split; rfl; rfl; (split; simp; split <;> simp; simp); split <;> simp
@[simp] theorem acceptOwnFrame_droopHold (f : FrameFields) (s : State) : (acceptOwnFrame f s).droopHold = s.droopHold := by unfold acceptOwnFrame; dsimp only; split; rfl; rfl; (split; simp; split <;> simp; simp); split <;> simp
@[simp] theorem acceptOwnFrame_recovery (f : FrameFields) (s : State) : (acceptOwnFrame f s).recovery = s.recovery := by unfold acceptOwnFrame; dsimp only; split; rfl; rfl; (split; simp; split <;> simp; simp); split <;> simp
@[simp] theorem acceptOwnFrame_mask (f : FrameFields) (s : State) : (acceptOwnFrame f s).mask = s.mask := by unfold acceptOwnFrame; dsimp only; split; rfl; rfl; (split; simp; split <;> simp; simp); split <;> simp
@[simp] theorem acceptOwnFrame_straddling (f : FrameFields) (s : State) : (acceptOwnFrame f s).straddling = s.straddling := by unfold acceptOwnFrame; dsimp only; split; rfl; rfl; (split; simp; split <;> simp; simp); split <;> simp
@[simp] theorem acceptOwnFrame_reply (f : FrameFields) (s : State) : (acceptOwnFrame f s).reply = s.reply := by unfold acceptOwnFrame; dsimp only; split; rfl; rfl; (split; simp; split <;> simp; simp); split <;> simp
@[simp] theorem acceptOwnFrame_fresh (f : FrameFields) (s : State) : (acceptOwnFrame f s).fresh = s.fresh := by unfold acceptOwnFrame; dsimp only; split; rfl; rfl; (split; simp; split <;> simp; simp); split <;> simp
@[simp] theorem acceptOwnFrame_pending (f : FrameFields) (s : State) : (acceptOwnFrame f s).pending = s.pending := by unfold acceptOwnFrame; dsimp only; split; rfl; rfl; (split; simp; split <;> simp; simp); split <;> simp

/-- `acceptOwnFrame` writes nothing else. -/
theorem acceptOwnFrame_writes (f : FrameFields) (s : State) :
    acceptOwnFrame f s = { s with
      mode := (acceptOwnFrame f s).mode, holding := (acceptOwnFrame f s).holding, ownAge :=
      (acceptOwnFrame f s).ownAge, target := (acceptOwnFrame f s).target, suppression := (acceptOwnFrame f
      s).suppression, outbox := (acceptOwnFrame f s).outbox, censusRetry := (acceptOwnFrame f
      s).censusRetry, joinCondition := (acceptOwnFrame f s).joinCondition, highTime := (acceptOwnFrame f
      s).highTime, renewTimer := (acceptOwnFrame f s).renewTimer, windowCap := (acceptOwnFrame f
      s).windowCap, level := (acceptOwnFrame f s).level, rampTarget := (acceptOwnFrame f s).rampTarget,
      settle := (acceptOwnFrame f s).settle, overdrawRun := (acceptOwnFrame f s).overdrawRun, underRun :=
      (acceptOwnFrame f s).underRun, under := (acceptOwnFrame f s).under, latch := (acceptOwnFrame f
      s).latch } := by
  apply State.ext <;> simp

/-! ### `endOwnFrame` -/

@[simp] theorem endOwnFrame_resetHeld (sent : SentFrame) (out : FrameOutcome) (s : State) : (endOwnFrame sent out s).resetHeld = s.resetHeld := by unfold endOwnFrame; dsimp only; split <;> simp
@[simp] theorem endOwnFrame_oneTime (sent : SentFrame) (out : FrameOutcome) (s : State) : (endOwnFrame sent out s).oneTime = s.oneTime := by unfold endOwnFrame; dsimp only; split <;> simp
@[simp] theorem endOwnFrame_writing (sent : SentFrame) (out : FrameOutcome) (s : State) : (endOwnFrame sent out s).writing = s.writing := by unfold endOwnFrame; dsimp only; split <;> simp
@[simp] theorem endOwnFrame_written (sent : SentFrame) (out : FrameOutcome) (s : State) : (endOwnFrame sent out s).written = s.written := by unfold endOwnFrame; dsimp only; split <;> simp
@[simp] theorem endOwnFrame_address (sent : SentFrame) (out : FrameOutcome) (s : State) : (endOwnFrame sent out s).address = s.address := by unfold endOwnFrame; dsimp only; split <;> simp
@[simp] theorem endOwnFrame_record (sent : SentFrame) (out : FrameOutcome) (s : State) : (endOwnFrame sent out s).record = s.record := by unfold endOwnFrame; dsimp only; split <;> simp
@[simp] theorem endOwnFrame_cause (sent : SentFrame) (out : FrameOutcome) (s : State) : (endOwnFrame sent out s).cause = s.cause := by unfold endOwnFrame; dsimp only; split <;> simp
@[simp] theorem endOwnFrame_voidRun (sent : SentFrame) (out : FrameOutcome) (s : State) : (endOwnFrame sent out s).voidRun = s.voidRun := by unfold endOwnFrame; dsimp only; split <;> simp
@[simp] theorem endOwnFrame_replicas (sent : SentFrame) (out : FrameOutcome) (s : State) : (endOwnFrame sent out s).replicas = s.replicas := by unfold endOwnFrame; dsimp only; split <;> simp
@[simp] theorem endOwnFrame_requested (sent : SentFrame) (out : FrameOutcome) (s : State) : (endOwnFrame sent out s).requested = s.requested := by unfold endOwnFrame; dsimp only; split <;> simp
@[simp] theorem endOwnFrame_wakeArmed (sent : SentFrame) (out : FrameOutcome) (s : State) : (endOwnFrame sent out s).wakeArmed = s.wakeArmed := by unfold endOwnFrame; dsimp only; split <;> simp
@[simp] theorem endOwnFrame_supplyLow (sent : SentFrame) (out : FrameOutcome) (s : State) : (endOwnFrame sent out s).supplyLow = s.supplyLow := by unfold endOwnFrame; dsimp only; split <;> simp
@[simp] theorem endOwnFrame_droopHold (sent : SentFrame) (out : FrameOutcome) (s : State) : (endOwnFrame sent out s).droopHold = s.droopHold := by unfold endOwnFrame; dsimp only; split <;> simp
@[simp] theorem endOwnFrame_recovery (sent : SentFrame) (out : FrameOutcome) (s : State) : (endOwnFrame sent out s).recovery = s.recovery := by unfold endOwnFrame; dsimp only; split <;> simp
@[simp] theorem endOwnFrame_mask (sent : SentFrame) (out : FrameOutcome) (s : State) : (endOwnFrame sent out s).mask = s.mask := by unfold endOwnFrame; dsimp only; split <;> simp
@[simp] theorem endOwnFrame_straddling (sent : SentFrame) (out : FrameOutcome) (s : State) : (endOwnFrame sent out s).straddling = s.straddling := by unfold endOwnFrame; dsimp only; split <;> simp
@[simp] theorem endOwnFrame_reply (sent : SentFrame) (out : FrameOutcome) (s : State) : (endOwnFrame sent out s).reply = s.reply := by unfold endOwnFrame; dsimp only; split <;> simp
@[simp] theorem endOwnFrame_fresh (sent : SentFrame) (out : FrameOutcome) (s : State) : (endOwnFrame sent out s).fresh = s.fresh := by unfold endOwnFrame; dsimp only; split <;> simp
@[simp] theorem endOwnFrame_pending (sent : SentFrame) (out : FrameOutcome) (s : State) : (endOwnFrame sent out s).pending = s.pending := by unfold endOwnFrame; dsimp only; split <;> simp

/-- `endOwnFrame` writes nothing else. -/
theorem endOwnFrame_writes (sent : SentFrame) (out : FrameOutcome) (s : State) :
    endOwnFrame sent out s = { s with
      mode := (endOwnFrame sent out s).mode, faultCause := (endOwnFrame sent out s).faultCause, holding :=
      (endOwnFrame sent out s).holding, ownAge := (endOwnFrame sent out s).ownAge, target := (endOwnFrame
      sent out s).target, suppression := (endOwnFrame sent out s).suppression, outbox := (endOwnFrame sent
      out s).outbox, censusRetry := (endOwnFrame sent out s).censusRetry, opening := (endOwnFrame sent out
      s).opening, frame := (endOwnFrame sent out s).frame, synchronised := (endOwnFrame sent out
      s).synchronised, joinCondition := (endOwnFrame sent out s).joinCondition, highTime := (endOwnFrame
      sent out s).highTime, lineLow := (endOwnFrame sent out s).lineLow, renewTimer := (endOwnFrame sent
      out s).renewTimer, windowCap := (endOwnFrame sent out s).windowCap, muteWait := (endOwnFrame sent
      out s).muteWait, level := (endOwnFrame sent out s).level, rampTarget := (endOwnFrame sent out
      s).rampTarget, settle := (endOwnFrame sent out s).settle, overdrawRun := (endOwnFrame sent out
      s).overdrawRun, underRun := (endOwnFrame sent out s).underRun, under := (endOwnFrame sent out
      s).under, latch := (endOwnFrame sent out s).latch } := by
  apply State.ext <;> simp

/-! ### `concludeOwn` -/

@[simp] theorem concludeOwn_resetHeld (r : FrameRecord) (sent : SentFrame) (s : State) : (concludeOwn r sent s).resetHeld = s.resetHeld := by simp [concludeOwn]
@[simp] theorem concludeOwn_oneTime (r : FrameRecord) (sent : SentFrame) (s : State) : (concludeOwn r sent s).oneTime = s.oneTime := by simp [concludeOwn]
@[simp] theorem concludeOwn_writing (r : FrameRecord) (sent : SentFrame) (s : State) : (concludeOwn r sent s).writing = s.writing := by simp [concludeOwn]
@[simp] theorem concludeOwn_written (r : FrameRecord) (sent : SentFrame) (s : State) : (concludeOwn r sent s).written = s.written := by simp [concludeOwn]
@[simp] theorem concludeOwn_address (r : FrameRecord) (sent : SentFrame) (s : State) : (concludeOwn r sent s).address = s.address := by simp [concludeOwn]
@[simp] theorem concludeOwn_record (r : FrameRecord) (sent : SentFrame) (s : State) : (concludeOwn r sent s).record = s.record := by simp [concludeOwn]
@[simp] theorem concludeOwn_cause (r : FrameRecord) (sent : SentFrame) (s : State) : (concludeOwn r sent s).cause = s.cause := by simp [concludeOwn]
@[simp] theorem concludeOwn_voidRun (r : FrameRecord) (sent : SentFrame) (s : State) : (concludeOwn r sent s).voidRun = s.voidRun := by simp [concludeOwn]
@[simp] theorem concludeOwn_replicas (r : FrameRecord) (sent : SentFrame) (s : State) : (concludeOwn r sent s).replicas = s.replicas := by simp [concludeOwn]
@[simp] theorem concludeOwn_requested (r : FrameRecord) (sent : SentFrame) (s : State) : (concludeOwn r sent s).requested = s.requested := by simp [concludeOwn]
@[simp] theorem concludeOwn_wakeArmed (r : FrameRecord) (sent : SentFrame) (s : State) : (concludeOwn r sent s).wakeArmed = s.wakeArmed := by simp [concludeOwn]
@[simp] theorem concludeOwn_supplyLow (r : FrameRecord) (sent : SentFrame) (s : State) : (concludeOwn r sent s).supplyLow = s.supplyLow := by simp [concludeOwn]
@[simp] theorem concludeOwn_droopHold (r : FrameRecord) (sent : SentFrame) (s : State) : (concludeOwn r sent s).droopHold = s.droopHold := by simp [concludeOwn]
@[simp] theorem concludeOwn_recovery (r : FrameRecord) (sent : SentFrame) (s : State) : (concludeOwn r sent s).recovery = s.recovery := by simp [concludeOwn]
@[simp] theorem concludeOwn_mask (r : FrameRecord) (sent : SentFrame) (s : State) : (concludeOwn r sent s).mask = s.mask := by simp [concludeOwn]
@[simp] theorem concludeOwn_straddling (r : FrameRecord) (sent : SentFrame) (s : State) : (concludeOwn r sent s).straddling = s.straddling := by simp [concludeOwn]
@[simp] theorem concludeOwn_reply (r : FrameRecord) (sent : SentFrame) (s : State) : (concludeOwn r sent s).reply = s.reply := by simp [concludeOwn]
@[simp] theorem concludeOwn_fresh (r : FrameRecord) (sent : SentFrame) (s : State) : (concludeOwn r sent s).fresh = s.fresh := by simp [concludeOwn]
@[simp] theorem concludeOwn_pending (r : FrameRecord) (sent : SentFrame) (s : State) : (concludeOwn r sent s).pending = s.pending := by simp [concludeOwn]

/-- `concludeOwn` writes nothing else. -/
theorem concludeOwn_writes (r : FrameRecord) (sent : SentFrame) (s : State) :
    concludeOwn r sent s = { s with
      mode := (concludeOwn r sent s).mode, faultCause := (concludeOwn r sent s).faultCause, holding :=
      (concludeOwn r sent s).holding, ownAge := (concludeOwn r sent s).ownAge, target := (concludeOwn r
      sent s).target, suppression := (concludeOwn r sent s).suppression, outbox := (concludeOwn r sent
      s).outbox, censusRetry := (concludeOwn r sent s).censusRetry, opening := (concludeOwn r sent
      s).opening, frame := (concludeOwn r sent s).frame, synchronised := (concludeOwn r sent
      s).synchronised, joinCondition := (concludeOwn r sent s).joinCondition, highTime := (concludeOwn r
      sent s).highTime, lineLow := (concludeOwn r sent s).lineLow, renewTimer := (concludeOwn r sent
      s).renewTimer, windowCap := (concludeOwn r sent s).windowCap, muteWait := (concludeOwn r sent
      s).muteWait, level := (concludeOwn r sent s).level, rampTarget := (concludeOwn r sent s).rampTarget,
      settle := (concludeOwn r sent s).settle, overdrawRun := (concludeOwn r sent s).overdrawRun, underRun
      := (concludeOwn r sent s).underRun, under := (concludeOwn r sent s).under, latch := (concludeOwn r
      sent s).latch } := by
  apply State.ext <;> simp

/-! ### `lapseEntry` -/

@[simp] theorem lapseEntry_resetHeld (a : Address) (s : State) : (lapseEntry a s).resetHeld = s.resetHeld := by unfold lapseEntry; split; rfl; simp
@[simp] theorem lapseEntry_oneTime (a : Address) (s : State) : (lapseEntry a s).oneTime = s.oneTime := by unfold lapseEntry; split; rfl; simp
@[simp] theorem lapseEntry_writing (a : Address) (s : State) : (lapseEntry a s).writing = s.writing := by unfold lapseEntry; split; rfl; simp
@[simp] theorem lapseEntry_written (a : Address) (s : State) : (lapseEntry a s).written = s.written := by unfold lapseEntry; split; rfl; simp
@[simp] theorem lapseEntry_address (a : Address) (s : State) : (lapseEntry a s).address = s.address := by unfold lapseEntry; split; rfl; simp
@[simp] theorem lapseEntry_record (a : Address) (s : State) : (lapseEntry a s).record = s.record := by unfold lapseEntry; split; rfl; simp
@[simp] theorem lapseEntry_cause (a : Address) (s : State) : (lapseEntry a s).cause = s.cause := by unfold lapseEntry; split; rfl; simp
@[simp] theorem lapseEntry_mode (a : Address) (s : State) : (lapseEntry a s).mode = s.mode := by unfold lapseEntry; split; rfl; simp
@[simp] theorem lapseEntry_faultCause (a : Address) (s : State) : (lapseEntry a s).faultCause = s.faultCause := by unfold lapseEntry; split; rfl; simp
@[simp] theorem lapseEntry_voidRun (a : Address) (s : State) : (lapseEntry a s).voidRun = s.voidRun := by unfold lapseEntry; split; rfl; simp
@[simp] theorem lapseEntry_ownAge (a : Address) (s : State) : (lapseEntry a s).ownAge = s.ownAge := by unfold lapseEntry; split; rfl; simp
@[simp] theorem lapseEntry_requested (a : Address) (s : State) : (lapseEntry a s).requested = s.requested := by unfold lapseEntry; split; rfl; simp
@[simp] theorem lapseEntry_censusRetry (a : Address) (s : State) : (lapseEntry a s).censusRetry = s.censusRetry := by unfold lapseEntry; split; rfl; simp
@[simp] theorem lapseEntry_opening (a : Address) (s : State) : (lapseEntry a s).opening = s.opening := by unfold lapseEntry; split; rfl; simp
@[simp] theorem lapseEntry_frame (a : Address) (s : State) : (lapseEntry a s).frame = s.frame := by unfold lapseEntry; split; rfl; simp
@[simp] theorem lapseEntry_synchronised (a : Address) (s : State) : (lapseEntry a s).synchronised = s.synchronised := by unfold lapseEntry; split; rfl; simp
@[simp] theorem lapseEntry_joinCondition (a : Address) (s : State) : (lapseEntry a s).joinCondition = s.joinCondition := by unfold lapseEntry; split; rfl; simp
@[simp] theorem lapseEntry_highTime (a : Address) (s : State) : (lapseEntry a s).highTime = s.highTime := by unfold lapseEntry; split; rfl; simp
@[simp] theorem lapseEntry_lineLow (a : Address) (s : State) : (lapseEntry a s).lineLow = s.lineLow := by unfold lapseEntry; split; rfl; simp
@[simp] theorem lapseEntry_wakeArmed (a : Address) (s : State) : (lapseEntry a s).wakeArmed = s.wakeArmed := by unfold lapseEntry; split; rfl; simp
@[simp] theorem lapseEntry_renewTimer (a : Address) (s : State) : (lapseEntry a s).renewTimer = s.renewTimer := by unfold lapseEntry; split; rfl; simp
@[simp] theorem lapseEntry_windowCap (a : Address) (s : State) : (lapseEntry a s).windowCap = s.windowCap := by unfold lapseEntry; split; rfl; simp
@[simp] theorem lapseEntry_muteWait (a : Address) (s : State) : (lapseEntry a s).muteWait = s.muteWait := by unfold lapseEntry; split; rfl; simp
@[simp] theorem lapseEntry_supplyLow (a : Address) (s : State) : (lapseEntry a s).supplyLow = s.supplyLow := by unfold lapseEntry; split; rfl; simp
@[simp] theorem lapseEntry_droopHold (a : Address) (s : State) : (lapseEntry a s).droopHold = s.droopHold := by unfold lapseEntry; split; rfl; simp
@[simp] theorem lapseEntry_recovery (a : Address) (s : State) : (lapseEntry a s).recovery = s.recovery := by unfold lapseEntry; split; rfl; simp
@[simp] theorem lapseEntry_mask (a : Address) (s : State) : (lapseEntry a s).mask = s.mask := by unfold lapseEntry; split; rfl; simp
@[simp] theorem lapseEntry_straddling (a : Address) (s : State) : (lapseEntry a s).straddling = s.straddling := by unfold lapseEntry; split; rfl; simp
@[simp] theorem lapseEntry_reply (a : Address) (s : State) : (lapseEntry a s).reply = s.reply := by unfold lapseEntry; split; rfl; simp
@[simp] theorem lapseEntry_fresh (a : Address) (s : State) : (lapseEntry a s).fresh = s.fresh := by unfold lapseEntry; split; rfl; simp
@[simp] theorem lapseEntry_pending (a : Address) (s : State) : (lapseEntry a s).pending = s.pending := by unfold lapseEntry; split; rfl; simp

/-- `lapseEntry` writes nothing else. -/
theorem lapseEntry_writes (a : Address) (s : State) :
    lapseEntry a s = { s with
      replicas := (lapseEntry a s).replicas, holding := (lapseEntry a s).holding, target := (lapseEntry a
      s).target, suppression := (lapseEntry a s).suppression, outbox := (lapseEntry a s).outbox, level :=
      (lapseEntry a s).level, rampTarget := (lapseEntry a s).rampTarget, settle := (lapseEntry a
      s).settle, overdrawRun := (lapseEntry a s).overdrawRun, underRun := (lapseEntry a s).underRun, under
      := (lapseEntry a s).under, latch := (lapseEntry a s).latch } := by
  apply State.ext <;> simp

/-! ### `removeEntry` -/

@[simp] theorem removeEntry_resetHeld (a : Address) (s : State) : (removeEntry a s).resetHeld = s.resetHeld := by simp [removeEntry]
@[simp] theorem removeEntry_oneTime (a : Address) (s : State) : (removeEntry a s).oneTime = s.oneTime := by simp [removeEntry]
@[simp] theorem removeEntry_writing (a : Address) (s : State) : (removeEntry a s).writing = s.writing := by simp [removeEntry]
@[simp] theorem removeEntry_written (a : Address) (s : State) : (removeEntry a s).written = s.written := by simp [removeEntry]
@[simp] theorem removeEntry_address (a : Address) (s : State) : (removeEntry a s).address = s.address := by simp [removeEntry]
@[simp] theorem removeEntry_record (a : Address) (s : State) : (removeEntry a s).record = s.record := by simp [removeEntry]
@[simp] theorem removeEntry_cause (a : Address) (s : State) : (removeEntry a s).cause = s.cause := by simp [removeEntry]
@[simp] theorem removeEntry_mode (a : Address) (s : State) : (removeEntry a s).mode = s.mode := by simp [removeEntry]
@[simp] theorem removeEntry_faultCause (a : Address) (s : State) : (removeEntry a s).faultCause = s.faultCause := by simp [removeEntry]
@[simp] theorem removeEntry_voidRun (a : Address) (s : State) : (removeEntry a s).voidRun = s.voidRun := by simp [removeEntry]
@[simp] theorem removeEntry_ownAge (a : Address) (s : State) : (removeEntry a s).ownAge = s.ownAge := by simp [removeEntry]
@[simp] theorem removeEntry_requested (a : Address) (s : State) : (removeEntry a s).requested = s.requested := by simp [removeEntry]
@[simp] theorem removeEntry_censusRetry (a : Address) (s : State) : (removeEntry a s).censusRetry = s.censusRetry := by simp [removeEntry]
@[simp] theorem removeEntry_opening (a : Address) (s : State) : (removeEntry a s).opening = s.opening := by simp [removeEntry]
@[simp] theorem removeEntry_frame (a : Address) (s : State) : (removeEntry a s).frame = s.frame := by simp [removeEntry]
@[simp] theorem removeEntry_synchronised (a : Address) (s : State) : (removeEntry a s).synchronised = s.synchronised := by simp [removeEntry]
@[simp] theorem removeEntry_joinCondition (a : Address) (s : State) : (removeEntry a s).joinCondition = s.joinCondition := by simp [removeEntry]
@[simp] theorem removeEntry_highTime (a : Address) (s : State) : (removeEntry a s).highTime = s.highTime := by simp [removeEntry]
@[simp] theorem removeEntry_lineLow (a : Address) (s : State) : (removeEntry a s).lineLow = s.lineLow := by simp [removeEntry]
@[simp] theorem removeEntry_wakeArmed (a : Address) (s : State) : (removeEntry a s).wakeArmed = s.wakeArmed := by simp [removeEntry]
@[simp] theorem removeEntry_renewTimer (a : Address) (s : State) : (removeEntry a s).renewTimer = s.renewTimer := by simp [removeEntry]
@[simp] theorem removeEntry_windowCap (a : Address) (s : State) : (removeEntry a s).windowCap = s.windowCap := by simp [removeEntry]
@[simp] theorem removeEntry_muteWait (a : Address) (s : State) : (removeEntry a s).muteWait = s.muteWait := by simp [removeEntry]
@[simp] theorem removeEntry_supplyLow (a : Address) (s : State) : (removeEntry a s).supplyLow = s.supplyLow := by simp [removeEntry]
@[simp] theorem removeEntry_droopHold (a : Address) (s : State) : (removeEntry a s).droopHold = s.droopHold := by simp [removeEntry]
@[simp] theorem removeEntry_recovery (a : Address) (s : State) : (removeEntry a s).recovery = s.recovery := by simp [removeEntry]
@[simp] theorem removeEntry_mask (a : Address) (s : State) : (removeEntry a s).mask = s.mask := by simp [removeEntry]
@[simp] theorem removeEntry_straddling (a : Address) (s : State) : (removeEntry a s).straddling = s.straddling := by simp [removeEntry]
@[simp] theorem removeEntry_reply (a : Address) (s : State) : (removeEntry a s).reply = s.reply := by simp [removeEntry]
@[simp] theorem removeEntry_fresh (a : Address) (s : State) : (removeEntry a s).fresh = s.fresh := by simp [removeEntry]
@[simp] theorem removeEntry_pending (a : Address) (s : State) : (removeEntry a s).pending = s.pending := by simp [removeEntry]

/-- `removeEntry` writes nothing else. -/
theorem removeEntry_writes (a : Address) (s : State) :
    removeEntry a s = { s with
      replicas := (removeEntry a s).replicas, holding := (removeEntry a s).holding, target := (removeEntry
      a s).target, suppression := (removeEntry a s).suppression, outbox := (removeEntry a s).outbox, level
      := (removeEntry a s).level, rampTarget := (removeEntry a s).rampTarget, settle := (removeEntry a
      s).settle, overdrawRun := (removeEntry a s).overdrawRun, underRun := (removeEntry a s).underRun,
      under := (removeEntry a s).under, latch := (removeEntry a s).latch } := by
  apply State.ext <;> simp

end Sys2Proof.Machine
end

