-- ==== Sys2Proof/Laws/Roster.lean ====
section
/-! SUPPORT. The laws of the roster table: writes and removals keep it a table, a read after a write gives what was
written, every other address reads as before, and what the sums and the own target depend on. -/

set_option Elab.async false

namespace Sys2Proof.Machine

/-! ### The order of the table -/

theorem rising_tail {x : Entry} {l : List Entry} (h : rising (x :: l) = true) : rising l = true := by
  cases l with
  | nil => rfl
  | cons y ys => simp [rising] at h; exact h.2

/-- In a rising table the head's address lies below every other. -/
theorem rising_head_lt {x : Entry} {l : List Entry} (h : rising (x :: l) = true) :
    ∀ y ∈ l, x.address < y.address := by
  induction l generalizing x with
  | nil => simp
  | cons y ys ih =>
    simp [rising] at h
    intro z hz
    rcases List.mem_cons.1 hz with rfl | hz
    · exact h.1
    · exact BitVec.lt_trans h.1 (ih h.2 z hz)

theorem rising_cons {x : Entry} {l : List Entry} :
    rising (x :: l) = true ↔ (∀ y ∈ l, x.address < y.address) ∧ rising l = true := by
  constructor
  · exact fun h => ⟨rising_head_lt h, rising_tail h⟩
  · rintro ⟨h, hl⟩
    cases l with
    | nil => rfl
    | cons y ys => simp [rising, h y (by simp), hl]

theorem mem_putEntry {e x : Entry} {l : List Entry} (h : x ∈ putEntry e l) : x = e ∨ x ∈ l := by
  induction l with
  | nil => simpa [putEntry] using h
  | cons y ys ih =>
    simp only [putEntry] at h
    split at h
    · simpa using h
    · split at h
      · rcases List.mem_cons.1 h with h | h <;> simp [h]
      · rcases List.mem_cons.1 h with h | h
        · simp [h]
        · rcases ih h with h | h <;> simp [h]

/-- A write keeps the table rising. -/
theorem rising_putEntry {e : Entry} {l : List Entry} (h : rising l = true) : rising (putEntry e l) = true := by
  induction l with
  | nil => rfl
  | cons y ys ih =>
    have hy := rising_cons.1 h
    simp only [putEntry]
    split
    next hlt =>
      refine rising_cons.2 ⟨?_, h⟩
      intro z hz
      rcases List.mem_cons.1 hz with rfl | hz
      · exact hlt
      · exact BitVec.lt_trans hlt (hy.1 z hz)
    next hlt =>
      split
      next heq => exact rising_cons.2 ⟨fun z hz => heq ▸ hy.1 z hz, hy.2⟩
      next hne =>
        refine rising_cons.2 ⟨?_, ih hy.2⟩
        intro z hz
        rcases mem_putEntry hz with rfl | hz
        · bv_omega
        · exact hy.1 z hz

/-- A change that keeps every address keeps the table rising. -/
theorem rising_map {g : Entry → Entry} (hg : ∀ e, (g e).address = e.address) {l : List Entry}
    (h : rising l = true) : rising (l.map g) = true := by
  induction l with
  | nil => rfl
  | cons y ys ih =>
    have hy := rising_cons.1 h
    refine rising_cons.2 ⟨?_, ih hy.2⟩
    intro z hz
    obtain ⟨w, hw, rfl⟩ := List.mem_map.1 hz
    simpa [hg] using hy.1 w hw

/-- A removal keeps the table rising. -/
theorem rising_dropEntry {a : Address} {l : List Entry} (h : rising l = true) : rising (dropEntry a l) = true := by
  induction l with
  | nil => rfl
  | cons y ys ih =>
    have hy := rising_cons.1 h
    simp only [dropEntry, List.filter_cons]
    split
    · exact rising_cons.2 ⟨fun z hz => hy.1 z (List.mem_of_mem_filter hz), ih hy.2⟩
    · exact ih hy.2

/-! ### Reads after writes -/

@[simp] theorem findEntry_putEntry_self (e : Entry) (l : List Entry) :
    findEntry e.address (putEntry e l) = some e := by
  induction l with
  | nil => simp [putEntry, findEntry]
  | cons y ys ih =>
    simp only [putEntry]
    split
    · simp [findEntry]
    · split
      · simp [findEntry]
      next h => simp [findEntry, Ne.symm h, ih]

theorem findEntry_putEntry_of_ne {e : Entry} {a : Address} (h : a ≠ e.address) (l : List Entry) :
    findEntry a (putEntry e l) = findEntry a l := by
  induction l with
  | nil => simp [putEntry, findEntry, Ne.symm h]
  | cons y ys ih =>
    simp only [putEntry]
    split
    · simp [findEntry, Ne.symm h]
    · split
      next heq => simp [findEntry, Ne.symm h, heq ▸ Ne.symm h]
      · simp [findEntry, ih]

theorem dropEntry_cons (a : Address) (y : Entry) (ys : List Entry) :
    dropEntry a (y :: ys) = if y.address = a then dropEntry a ys else y :: dropEntry a ys := by
  by_cases h : y.address = a <;> simp [dropEntry, h]

@[simp] theorem findEntry_dropEntry_self (a : Address) (l : List Entry) : findEntry a (dropEntry a l) = none := by
  induction l with
  | nil => rfl
  | cons y ys ih =>
    rw [dropEntry_cons]
    split
    · exact ih
    next h => simp [findEntry, h, ih]

theorem findEntry_dropEntry_of_ne {a b : Address} (h : a ≠ b) (l : List Entry) :
    findEntry a (dropEntry b l) = findEntry a l := by
  induction l with
  | nil => rfl
  | cons y ys ih =>
    rw [dropEntry_cons]
    split
    next hy => simp [findEntry, hy, Ne.symm h, ih]
    · simp [findEntry, ih]

theorem findEntry_map {g : Entry → Entry} (hg : ∀ e, (g e).address = e.address) (a : Address) (l : List Entry) :
    findEntry a (l.map g) = (findEntry a l).map g := by
  induction l with
  | nil => rfl
  | cons y ys ih => simp only [List.map_cons, findEntry, hg]; split <;> simp [ih]

theorem findEntry_address {a : Address} {e : Entry} {l : List Entry} (h : findEntry a l = some e) : e.address = a := by
  induction l with
  | nil => simp [findEntry] at h
  | cons y ys ih =>
    simp only [findEntry] at h
    split at h
    next hy => cases h; exact hy
    · exact ih h

theorem findEntry_mem {a : Address} {e : Entry} {l : List Entry} (h : findEntry a l = some e) : e ∈ l := by
  induction l with
  | nil => simp [findEntry] at h
  | cons y ys ih =>
    simp only [findEntry] at h
    split at h
    · cases h; simp
    · exact List.mem_cons_of_mem _ (ih h)

theorem findEntry_eq_none {a : Address} {l : List Entry} : findEntry a l = none ↔ ∀ e ∈ l, e.address ≠ a := by
  induction l with
  | nil => simp [findEntry]
  | cons y ys ih =>
    simp only [findEntry]
    split
    next h => simp [h]
    next h => simp [h, ih]

theorem dropEntry_absent {a : Address} {l : List Entry} (h : findEntry a l = none) : dropEntry a l = l := by
  simpa [dropEntry] using findEntry_eq_none.1 h

/-- In a rising table no entry of the tail stands at the head's address or below. -/
theorem findEntry_of_rising {y : Entry} {ys : List Entry} (h : rising (y :: ys) = true) {a : Address}
    (ha : a ≤ y.address) : findEntry a ys = none := by
  rw [findEntry_eq_none]
  intro z hz
  have := rising_head_lt h z hz
  bv_omega

/-! ### The sums -/

@[simp] theorem sumHoldings_nil : sumHoldings [] = 0 := rfl
@[simp] theorem sumHoldings_cons (e : Entry) (l : List Entry) :
    sumHoldings (e :: l) = e.holding + sumHoldings l := by simp [sumHoldings]

/-- A write replaces the holding that stood at its address. -/
theorem sumHoldings_putEntry {l : List Entry} (h : rising l = true) (e : Entry) :
    sumHoldings (putEntry e l) = sumHoldings (dropEntry e.address l) + e.holding := by
  induction l with
  | nil => simp [putEntry, dropEntry]
  | cons y ys ih =>
    simp only [putEntry]
    rw [dropEntry_cons]
    split
    next hlt =>
      have hne : y.address ≠ e.address := by bv_omega
      rw [if_neg hne, dropEntry_absent (findEntry_of_rising h (by bv_omega))]
      simp; omega
    next hlt =>
      split
      next heq =>
        rw [if_pos heq.symm, dropEntry_absent (findEntry_of_rising h (by bv_omega))]
        simp; omega
      next hne =>
        rw [if_neg (Ne.symm hne)]
        simp [ih (rising_tail h)]; omega

/-- The holding found at an address is what its removal takes off the sum. -/
theorem sumHoldings_dropEntry {a : Address} {e : Entry} {l : List Entry} (h : rising l = true)
    (he : findEntry a l = some e) : sumHoldings (dropEntry a l) + e.holding = sumHoldings l := by
  induction l with
  | nil => simp [findEntry] at he
  | cons y ys ih =>
    simp only [findEntry] at he
    rw [dropEntry_cons]
    split at he
    next hya =>
      cases he
      rw [if_pos hya, dropEntry_absent (findEntry_of_rising h (by bv_omega))]
      simp; omega
    next hya =>
      rw [if_neg hya]
      have := ih (rising_tail h) he
      simp; omega

/-- The holdings of the entries at every other address, with the one found at this address, are the sum (R16, R45). -/
theorem sumHoldings_dropEntry_add {l : List Entry} (h : rising l = true) (a : Address) :
    sumHoldings (dropEntry a l) + ((findEntry a l).map Entry.holding).getD 0 = sumHoldings l := by
  cases he : findEntry a l with
  | none => rw [dropEntry_absent he]; simp
  | some e => simpa using sumHoldings_dropEntry h he

/-! ### What the own target depends on -/

/-- Two entries the reckoning cannot tell apart: the same address, LIVE, the same demand. -/
def sameShare (e f : Entry) : Prop := e.address = f.address ∧ e.status = .live ∧ f.status = .live ∧ e.demand = f.demand

theorem lapsedHoldings_putEntry {e f : Entry} (h : sameShare e f) (l : List Entry) :
    lapsedHoldings (putEntry e l) = lapsedHoldings (putEntry f l) := by
  obtain ⟨ha, he, hf, -⟩ := h
  induction l with
  | nil => simp [putEntry, lapsedHoldings, he, hf]
  | cons y ys ih =>
    simp only [putEntry, ha]
    split
    · simp [lapsedHoldings, he, hf]
    · split
      · simp [lapsedHoldings, he, hf]
      · simp only [lapsedHoldings, List.filter_cons] at ih ⊢
        split <;> simp [ih]

theorem wanting_putEntry {e f : Entry} (h : sameShare e f) (l : List Entry) :
    (wanting (putEntry e l)).map (fun x => (x.address, x.demand)) =
      (wanting (putEntry f l)).map (fun x => (x.address, x.demand)) := by
  obtain ⟨ha, he, hf, hd⟩ := h
  induction l with
  | nil => simp only [putEntry, wanting, List.filter_cons, he, hf, hd]; split <;> simp [ha, hd]
  | cons y ys ih =>
    simp only [putEntry, ha]
    split
    · simp only [wanting, List.filter_cons, he, hf, hd]; split <;> simp [ha, hd]
    · split
      · simp only [wanting, List.filter_cons, he, hf, hd]; split <;> simp [ha, hd]
      · simp only [wanting, List.filter_cons] at ih ⊢
        split <;> simp [ih]

theorem firstShares_congr {w v : List Entry}
    (h : w.map (fun x => (x.address, x.demand)) = v.map (fun x => (x.address, x.demand))) (n : Nat) :
    firstShares n w = firstShares n v := by
  have : ∀ u : List Entry, firstShares n u = ((u.map (fun x => (x.address, x.demand))).map fun p => min p.2 n).sum := by
    intro u; simp [firstShares, Function.comp_def]
  rw [this, this, h]

theorem fairLevel_congr {w v : List Entry}
    (h : w.map (fun x => (x.address, x.demand)) = v.map (fun x => (x.address, x.demand))) (b : Nat) :
    fairLevel b w = fairLevel b v := by
  have : ∀ n, levelUpTo b w n = levelUpTo b v n := by
    intro n
    induction n with
    | zero => rfl
    | succ n ih => simp only [levelUpTo, firstShares_congr h, ih]
  exact this _

theorem dealTargets_congr (level : Nat) {w v : List Entry}
    (h : w.map (fun x => (x.address, x.demand)) = v.map (fun x => (x.address, x.demand))) (r : Nat) :
    dealTargets level r w = dealTargets level r v := by
  induction w generalizing v r with
  | nil => cases v <;> simp_all
  | cons x xs ih =>
    cases v with
    | nil => simp at h
    | cons y ys =>
      simp only [List.map_cons, List.cons.injEq, Prod.mk.injEq] at h
      obtain ⟨⟨ha, hd⟩, ht⟩ := h
      simp only [dealTargets, ha, hd]
      split
      · split <;> simp [ih ht]
      · simp [ih ht]

/-- A LIVE entry's own holding plays no part in the targets (R27). -/
theorem targetAt_putEntry_congr {e f : Entry} (h : sameShare e f) (b : Nat) (l : List Entry) (a : Address) :
    targetAt b (putEntry e l) a = targetAt b (putEntry f l) a := by
  have hl := lapsedHoldings_putEntry h l
  have hw := wanting_putEntry h l
  have hr : reducedBudget b (putEntry e l) = reducedBudget b (putEntry f l) := by simp [reducedBudget, hl]
  have ht : fairTargets b (putEntry e l) = fairTargets b (putEntry f l) := by
    simp [fairTargets, hr, fairLevel_congr hw, firstShares_congr hw, dealTargets_congr _ hw]
  simp [targetAt, ht]

end Sys2Proof.Machine
end

