-- ==== Sys2Proof/Laws/Ops.lean ====
section
/-! SUPPORT. What the shared operations do to the fields they write: the latch, the outbox, the own holding with the
output level, the recompute with its balance action. -/

set_option Elab.async false

namespace Sys2Proof.Machine

/-! ### The event latch -/

theorem EventKind.bit_lt (k : EventKind) : k.bit < 10 := by cases k <;> decide

theorem EventKind.bit_inj {j k : EventKind} : j.bit = k.bit ↔ j = k := by cases j <;> cases k <;> decide

/-- Latching a kind latches it and no other (R170). -/
theorem latched_latchEvent (j k : EventKind) (s : State) :
    (latchEvent j s).latched k = (s.latched k || decide (k = j)) := by
  have := k.bit_lt
  simp only [State.latched, latchEvent_latch, BitVec.getLsbD_or, EventKind.word, BitVec.getLsbD_twoPow]
  by_cases h : k = j
  · subst h; simp [this]
  · have : ¬ j.bit = k.bit := fun e => h (EventKind.bit_inj.1 e).symm
    simp [h, this]

theorem latched_congr {s t : State} (h : t.latch = s.latch) (k : EventKind) : t.latched k = s.latched k := by
  simp [State.latched, h]

/-! ### The outbox -/

@[simp] theorem Outbox.get_put_self (k : Kind) (i : Option Intent) (o : Outbox) : (o.put k i).get k = i := by
  cases k <;> rfl
theorem Outbox.get_put_of_ne {j k : Kind} (h : j ≠ k) (i : Option Intent) (o : Outbox) :
    (o.put k i).get j = o.get j := by cases j <;> cases k <;> first | rfl | exact absurd rfl h
@[simp] theorem Outbox.put_inFlight (k : Kind) (i : Option Intent) (o : Outbox) : (o.put k i).inFlight = o.inFlight := by
  cases k <;> rfl
@[simp] theorem Outbox.put_backoff (k : Kind) (i : Option Intent) (o : Outbox) : (o.put k i).backoff = o.backoff := by
  cases k <;> rfl
@[simp] theorem Outbox.get_cancel (k : Kind) (p : Kind → Bool) (o : Outbox) : (o.cancel p).get k = o.get k := by
  cases k <;> rfl
@[simp] theorem Outbox.cancel_backoff (p : Kind → Bool) (o : Outbox) : (o.cancel p).backoff = o.backoff := rfl
@[simp] theorem Outbox.cancel_isSome (p : Kind → Bool) (o : Outbox) :
    (o.cancel p).inFlight.isSome = o.inFlight.isSome := by simp [Outbox.cancel]
@[simp] theorem Outbox.get_clear (k : Kind) (o : Outbox) : o.clear.get k = none := by cases k <;> rfl
@[simp] theorem Outbox.clear_backoff (o : Outbox) : o.clear.backoff = false := rfl
@[simp] theorem Outbox.clear_isSome (o : Outbox) : o.clear.inFlight.isSome = o.inFlight.isSome := by
  simp [Outbox.clear, Outbox.cancel]

@[simp] theorem mergeQueued_isSome (i : Option Intent) : (mergeQueued i).isSome = true := by cases i <;> rfl

/-- A queued intent is in the collection (R85). -/
@[simp] theorem queueIntent_get_self (k : Kind) (s : State) :
    (queueIntent k s).outbox.get k = mergeQueued (s.outbox.get k) := by simp

theorem queueIntent_get_of_ne {j k : Kind} (h : j ≠ k) (s : State) :
    (queueIntent k s).outbox.get j = s.outbox.get j := by simp [Outbox.get_put_of_ne h]

/-! ### The own holding and the output level -/

@[simp] theorem setHolding_holding (v : Nat) (s : State) : (setHolding v s).holding = v := by
  unfold setHolding; dsimp only; split
  next h => exact h.symm
  · split <;> rfl

/-- The ramp target follows the holding, and a level above it falls to it at once (R137). -/
theorem setHolding_output {s : State} (h : s.OutputInv) (v : Nat) :
    (setHolding v s).rampTarget = v ∧ (setHolding v s).level = min s.level v := by
  obtain ⟨h1, h2⟩ := h
  unfold setHolding; dsimp only; split
  next hv => subst hv; exact ⟨h1, by omega⟩
  · split
    next hl => simp; omega
    next hl => simp; omega

theorem setHolding_outputInv {s : State} (h : s.OutputInv) (v : Nat) : (setHolding v s).OutputInv := by
  have := setHolding_output h v
  simp [State.OutputInv, this]

/-- A changed holding latches OUTPUT and nothing else; an equal one latches nothing (R7). -/
theorem setHolding_latch (v : Nat) (s : State) :
    (setHolding v s).latch = if v = s.holding then s.latch else s.latch ||| EventKind.output.word := by
  unfold setHolding; dsimp only; split
  · rfl
  · split <;> rfl

/-! ### What the own target depends on -/

/-- The own target reads the record, the address, the replicas and the advertised demand, and nothing else (R27). -/
theorem fairTarget_congr {s t : State} (hr : t.record = s.record) (ha : t.address = s.address)
    (hp : t.replicas = s.replicas) (ho : t.hasOwnEntry = s.hasOwnEntry) (hd : t.advertised = s.advertised) :
    t.fairTarget = s.fairTarget := by
  unfold State.fairTarget State.roster State.budget
  rw [hr, ha, hp, ho]
  split
  · exact targetAt_putEntry_congr ⟨ha, rfl, rfl, hd⟩ _ _ _
  · rfl

theorem hasOwnEntry_congr {s t : State} (hh : t.resetHeld = s.resetHeld) (hm : t.mode = s.mode) :
    t.hasOwnEntry = s.hasOwnEntry := by simp [State.hasOwnEntry, hh, hm]

theorem advertised_congr {s t : State} (hm : t.mode = s.mode) (hd : t.droopHold = s.droopHold)
    (hr : t.requested = s.requested) : t.advertised = s.advertised := by simp [State.advertised, hm, hd, hr]

theorem dealTargets_mem {level r : Nat} {w : List Entry} {p : Address × Nat} (h : p ∈ dealTargets level r w) :
    ∃ e ∈ w, e.address = p.1 := by
  induction w generalizing r with
  | nil => simp [dealTargets] at h
  | cons x xs ih =>
    have tail : ∀ {n : Nat} {q : Nat}, p = (x.address, q) ∨ p ∈ dealTargets level n xs →
        ∃ e ∈ x :: xs, e.address = p.1 := by
      rintro n q (rfl | h)
      · exact ⟨x, by simp, rfl⟩
      · obtain ⟨e, he, ha⟩ := ih h; exact ⟨e, List.mem_cons_of_mem _ he, ha⟩
    simp only [dealTargets] at h
    split at h
    · split at h <;> exact tail (List.mem_cons.1 h)
    · exact tail (List.mem_cons.1 h)

/-- A target stands only at the address of a member of W (R29). -/
theorem fairTargets_mem {b : Nat} {l : List Entry} {p : Address × Nat} (h : p ∈ fairTargets b l) :
    ∃ e ∈ wanting l, e.address = p.1 := by
  unfold fairTargets at h
  split at h
  · cases h
  · exact dealTargets_mem h

/-- A station that advertises no demand has the own target 0 (R30). -/
theorem fairTarget_of_no_demand {s : State} (hr : findEntry s.address s.replicas = none) (hd : s.advertised = 0) :
    s.fairTarget = 0 := by
  unfold State.fairTarget targetAt
  split
  next p hp =>
    exfalso
    obtain ⟨e, he, ha⟩ := fairTargets_mem (List.mem_of_find?_eq_some hp)
    have hpa := List.find?_some hp
    simp only [wanting, List.mem_filter, Bool.and_eq_true, decide_eq_true_eq] at he hpa
    unfold State.roster at he
    split at he
    · rcases mem_putEntry he.1 with rfl | h
      · simp [State.ownEntry, hd] at he
      · exact findEntry_eq_none.1 hr e h (ha.trans hpa)
    · cases he.1
  · rfl

/-! ### The recompute with its balance action -/

/-- The balance action takes exactly one of three courses (R32). -/
theorem balance_cases (s : State) :
    (s.target < s.holding ∧ balance s = balanceYield s) ∨
    (s.holding ≤ s.target ∧ s.claimWanted = true ∧ balance s = queueIntent .claim s) ∨
    (s.holding ≤ s.target ∧ s.claimWanted = false ∧ balance s = s) := by
  unfold balance
  split
  · exact .inl ⟨‹_›, rfl⟩
  · split
    · exact .inr (.inl ⟨by omega, ‹_›, rfl⟩)
    next hc => exact .inr (.inr ⟨by omega, by simpa using hc, rfl⟩)

/-- The recompute, course by course. -/
theorem recompute_cases (s : State) :
    (s.fairTarget < s.holding ∧ recompute s = balanceYield (refreshTarget s)) ∨
    (s.holding ≤ s.fairTarget ∧ (refreshTarget s).claimWanted = true ∧
      recompute s = queueIntent .claim (refreshTarget s)) ∨
    (s.holding ≤ s.fairTarget ∧ (refreshTarget s).claimWanted = false ∧ recompute s = refreshTarget s) := by
  have := balance_cases (refreshTarget s)
  simpa [recompute] using this

@[simp] theorem recompute_target (s : State) : (recompute s).target = s.fairTarget := by simp [recompute]

/-- A recompute never raises the holding, and leaves it at the target or below. -/
@[simp] theorem recompute_holding (s : State) : (recompute s).holding = min s.holding s.fairTarget := by
  rcases recompute_cases s with ⟨h, e⟩ | ⟨h, -, e⟩ | ⟨h, -, e⟩ <;> rw [e] <;> simp [balanceYield] <;> omega

theorem recompute_outputInv {s : State} (h : s.OutputInv) : (recompute s).OutputInv := by
  have h' : (refreshTarget s).OutputInv := h
  rcases recompute_cases s with ⟨-, e⟩ | ⟨-, -, e⟩ | ⟨-, -, e⟩ <;> rw [e]
  · simpa [balanceYield, State.OutputInv] using setHolding_outputInv h' (refreshTarget s).target
  · simpa [State.OutputInv] using h
  · exact h'

/-- The recompute's own target is still the target after it (R31). -/
theorem recompute_fairTarget (s : State) : (recompute s).fairTarget = s.fairTarget :=
  fairTarget_congr (by simp) (by simp) (by simp) (hasOwnEntry_congr (by simp) (by simp))
    (advertised_congr (by simp) (by simp) (by simp))

/-- A recompute with nothing to yield and nothing to claim replaces the target alone. -/
theorem recompute_quiet {s : State} (h : s.holding ≤ s.fairTarget) (hc : (refreshTarget s).claimWanted = false) :
    recompute s = { s with target := s.fairTarget } := by
  rcases recompute_cases s with ⟨h', -⟩ | ⟨-, hc', -⟩ | ⟨-, -, e⟩
  · omega
  · rw [hc] at hc'; cases hc'
  · exact e

theorem claimWanted_of_mode {s : State} (h : s.mode ≠ .member) : s.claimWanted = false := by
  simp [State.claimWanted, h]

/-- Outside MEMBER a station that holds nothing only takes the new target (R32). -/
theorem recompute_outside {s : State} (hm : s.mode ≠ .member) (hh : s.holding = 0) :
    recompute s = { s with target := s.fairTarget } :=
  recompute_quiet (by omega) (claimWanted_of_mode hm)

/-- Under RosterInv a station that holds nothing and advertises nothing takes the target 0 and does nothing more. -/
theorem recompute_idle {s : State} (hr : findEntry s.address s.replicas = none) (hh : s.holding = 0)
    (hd : s.advertised = 0) : recompute s = { s with target := 0 } := by
  have ht := fairTarget_of_no_demand hr hd
  have := recompute_quiet (s := s) (by omega) (by simp [State.claimWanted, ht, hh])
  rw [this, ht]

/-- A recompute touches the YIELD and the CLAIM alone: the other places of the outbox stay. -/
theorem recompute_outbox (s : State) :
    (recompute s).outbox.renew = s.outbox.renew ∧ (recompute s).outbox.census = s.outbox.census ∧
    (recompute s).outbox.inFlight = s.outbox.inFlight ∧ (recompute s).outbox.backoff = s.outbox.backoff := by
  rcases recompute_cases s with ⟨-, e⟩ | ⟨-, -, e⟩ | ⟨-, -, e⟩ <;> rw [e] <;> simp [balanceYield, Outbox.put]

/-! ### Entries to the station states -/

theorem setHolding_same {s : State} {v : Nat} (h : v = s.holding) : setHolding v s = s := by
  simp [setHolding, h]

/-- Entry to START of a station that holds nothing (R124): everything it writes. -/
theorem enterStart_eq {s : State} (h : s.holding = 0) :
    enterStart s = { s with
      mode := .start, faultCause := .none, voidRun := 0, replicas := [], target := (enterStart s).target
      suppression := none, outbox := s.outbox.clear, censusRetry := none, synchronised := false
      joinCondition := false, highTime := 0, wakeArmed := false, renewTimer := .stopped
      windowCap := none, muteWait := none, level := 0, rampTarget := 0, settle := 8, overdrawRun := 0
      underRun := 0, under := false } := by
  unfold enterStart
  rw [setHolding_same h.symm, recompute_outside (by simp) (by simpa using h)]
  apply State.ext <;> simp
  rfl

/-! Each entry sets its own state (09 section 9.7). -/

@[simp] theorem enterStart_mode (s : State) : (enterStart s).mode = .start := by simp [enterStart]
@[simp] theorem wakeStation_mode (s : State) : (wakeStation s).mode = .start := by simp [wakeStation]
@[simp] theorem enterLearning_mode (d : Nat) (s : State) : (enterLearning d s).mode = .learning := by
  unfold enterLearning; dsimp only; split <;> simp
@[simp] theorem enterMember_mode (s : State) : (enterMember s).mode = .member := by
  unfold enterMember; dsimp only; split <;> simp
@[simp] theorem enterIsolated_mode (b : Bool) (s : State) : (enterIsolated b s).mode = .isolated := by
  unfold enterIsolated; dsimp only; split <;> simp
@[simp] theorem enterFault_mode (c : FaultCause) (s : State) : (enterFault c s).mode = .fault := by
  unfold enterFault; dsimp only; split; assumption; split <;> simp
@[simp] theorem enterMute_mode (s : State) : (enterMute s).mode = .mute := by simp [enterMute]
@[simp] theorem enterDormant_mode (s : State) : (enterDormant s).mode = .dormant := by simp [enterDormant]

/-- An accepted own frame moves the station to LEARNING or leaves its state (R52, R62). -/
theorem acceptOwnFrame_mode (f : FrameFields) (s : State) :
    (acceptOwnFrame f s).mode = s.mode ∨
      ((acceptOwnFrame f s).mode = .learning ∧ f.kind = .census ∧ (s.mode = .start ∨ s.mode = .isolated)) := by
  unfold acceptOwnFrame; dsimp only
  split
  · exact .inl rfl
  · exact .inl rfl
  · refine .inl ?_
    split
    · simp only [recompute_mode, beginOvercommit_mode]; split <;> simp
    · simp
  next hk => split <;> simp_all

/-- The end of an own frame leaves the state, enters LEARNING, or enters FAULT at a clash (R80). -/
theorem endOwnFrame_mode (f : SentFrame) (out : FrameOutcome) (s : State) :
    (endOwnFrame f out s).mode = s.mode ∨
      ((endOwnFrame f out s).mode = .learning ∧ (s.mode = .start ∨ s.mode = .isolated)) ∨
      ((endOwnFrame f out s).mode = .fault ∧ out = .clash) := by
  unfold endOwnFrame; dsimp only
  split
  · rcases acceptOwnFrame_mode f.fields (knownFrameEnd { takeOutcome .accepted s with frame := none }) with h | h
    · exact .inl (by simpa using h)
    · exact .inr (.inl ⟨h.1, by simpa using h.2.2⟩)
  · simp
  · simp

/-- A receiver's verdict leaves the state, or enters FAULT or MUTE (R46, R155). -/
theorem applyVerdict_mode (r : FrameRecord) (s : State) :
    (applyVerdict r s).mode = s.mode ∨ (applyVerdict r s).mode = .fault ∨ (applyVerdict r s).mode = .mute := by
  unfold applyVerdict
  split
  · simp
  · split <;> simp
  · split
    · split <;> simp
    · simp
  · simp
  · simp

/-- The end of a followed frame leaves the state, or enters FAULT or MUTE (R46, R155). -/
theorem endFollowed_mode (s : State) :
    (endFollowed s).mode = s.mode ∨ (endFollowed s).mode = .fault ∨ (endFollowed s).mode = .mute := by
  unfold endFollowed
  split
  · simp
  next r _ =>
    dsimp only
    split
    · simpa using applyVerdict_mode r (knownFrameEnd { s with frame := none })
    · simp

/-! ### Frames on the line -/

@[simp] theorem Role.demote_eq_sender (role : Role) : role.demote = .sender ↔ role = .sender := by
  cases role <;> simp [Role.demote]

/-- Leaving the listening states takes no sender off the line (R51, R42). -/
@[simp] theorem demoteReceiver_sending (s : State) : (demoteReceiver s).sending = s.sending := by
  cases ho : s.opening <;> cases hf : s.frame <;> simp [State.sending, ho, hf]

/-- A break that is followed is none of the station's own. -/
@[simp] theorem followBreak_sending (s : State) : (followBreak s).sending = false := by
  simp only [State.sending, followBreak_opening, followBreak_frame, State.roleAtBreak]
  split <;> rfl

/-- The record stands once the frame is under way, with its role (R72). -/
@[simp] theorem frameReaches_sending (r : FrameRecord) (now : Nat) (lows : List Low) (s : State) :
    (frameReaches r now lows s).sending = decide (r.role = .sender) := by
  simp [State.sending]

/-- Every follower's progress leaves a record that has come to `now`, in its role (R69, R72). -/
theorem followTo_frame (r : FrameRecord) (now : Nat) (lows : List Low) (s : State) :
    ∃ r', (followTo r now lows s).frame = some r' ∧ r'.elapsed = now ∧ r'.role = r.role ∧ r'.sent = r.sent ∧
      (followTo r now lows s).opening = none := by
  unfold followTo; dsimp only
  split
  · refine ⟨_, frameReaches_frame _ _ _ _, rfl, ?_, ?_, rfl⟩ <;>
      (simp only [FrameRecord.sampled]; split <;> rfl)
  · refine ⟨_, frameReaches_frame _ _ _ _, rfl, ?_, ?_, rfl⟩ <;>
      (simp only [FrameRecord.sampled]; split <;> rfl)

/-- A verdict that stands is judged no second time, and the marks under it stay (R43). -/
theorem followTo_of_judged {r : FrameRecord} {v : Verdict} (h : r.verdict = some v) (now : Nat) (lows : List Low)
    (s : State) : followTo r now lows s = frameReaches (r.sampled now lows) now lows s := by
  simp [followTo, State.judges, h]

@[simp] theorem enterStart_target (s : State) : (enterStart s).target = (enterStart s).fairTarget := by
  unfold enterStart; rw [recompute_fairTarget, recompute_target]

/-! ### Transactions, the wake detector and the sender's reading -/

/-- What a transaction can do: nothing while RESET is held, end as ignored, wake the station after its effect, or have
its effect (R118, R135, R162). -/
theorem transaction_cases (effect : State → State) (s : State) :
    (s.resetHeld = true ∧ transaction effect s = s) ∨
    (s.resetHeld = false ∧ s.straddling = true ∧ transaction effect s = { s with straddling := false }) ∨
    (s.resetHeld = false ∧ s.straddling = false ∧ s.mode = .dormant ∧ transaction effect s = wakeStation (effect s)) ∨
    (s.resetHeld = false ∧ s.straddling = false ∧ s.mode ≠ .dormant ∧ transaction effect s = effect s) := by
  cases hr : s.resetHeld <;> cases hs : s.straddling <;> by_cases hm : s.mode = .dormant <;>
    simp [transaction, hr, hs, hm]

/-- A request outside DORMANT has its effect and no more (R161). -/
theorem transaction_awake {s : State} (hr : s.resetHeld = false) (hs : s.straddling = false) (hm : s.mode ≠ .dormant)
    (effect : State → State) : transaction effect s = effect s := by simp [transaction, hr, hs, hm]

/-- No falling edge wakes a station whose detector is unarmed or off (R134). -/
theorem busWake_unarmed {s : State} (h : s.wakeDetectorOn = false ∨ s.wakeArmed = false) : busWake s = s := by
  rcases h with h | h <;> simp [busWake, h]

/-- What a sender's comparison can find by `now` (R77, R78): nothing, or, from its moment on, the mismatch known then. -/
theorem mismatchFound_cases (sent : List Mark) (now : Nat) (lows : List Low) :
    mismatchFound sent now lows = none ∨
    ∃ moment, mismatchMoment sent lows = some moment ∧ moment ≤ now ∧
      mismatchFound sent now lows = firstMismatch 0 sent (readBack sent moment lows) := by
  unfold mismatchFound
  split
  · split
    · exact .inr ⟨_, ‹_›, ‹_›, rfl⟩
    · exact .inl rfl
  · exact .inl rfl

/-- What an outcome with a RENEW behind it can be (R101): the outcome as without one, the outcome with the renew timer
due, or that with the RENEW queued behind it. -/
theorem withRenewBehind_cases (outcome : State → State) (s : State) :
    withRenewBehind outcome s = outcome s ∨
    withRenewBehind outcome s = outcome { s with renewTimer := .due } ∨
    withRenewBehind outcome s = queueIntent .renew (outcome { s with renewTimer := .due }) := by
  simp only [withRenewBehind]
  split
  · split
    · exact .inr (.inr rfl)
    · exact .inr (.inl rfl)
  · exact .inl rfl

/-- What an outcome with the self lease behind it can be (R101, R112): the outcome, or the entry to ISOLATED from it. -/
theorem withSelfLeaseBehind_cases (outcome : State → State) (s : State) :
    withSelfLeaseBehind outcome s = outcome s ∨
    (s.selfLeaseDue = true ∧ (outcome s).mode = .member ∧
      withSelfLeaseBehind outcome s = enterIsolated false (outcome s)) := by
  simp only [withSelfLeaseBehind]
  split
  · rename_i h
    simp only [Bool.and_eq_true, decide_eq_true_eq] at h
    exact .inr ⟨h.1.1.1, h.2, rfl⟩
  · exact .inl rfl

/-- What a valid sample can do as for overdraw (R140): count, start the run again, or report behind the event that is
taken first. -/
theorem judgeOverdraw_cases (between : Between) (code : Nat) (s : State) :
    (s.level + 1 < code ∧ s.overdrawRun < 3 ∧
      judgeOverdraw between code s = { s with overdrawRun := s.overdrawRun + 1 }) ∨
    (code ≤ s.level + 1 ∧ judgeOverdraw between code s = { s with overdrawRun := 0 }) ∨
    (s.level + 1 < code ∧ 3 ≤ s.overdrawRun ∧
      judgeOverdraw between code s = enterFault .overdraw (takeBetween between { s with overdrawRun := 0 })) := by
  unfold judgeOverdraw
  split
  · split
    · exact .inl ⟨‹_›, by simp only [Config.overdrawSamples] at *; omega, rfl⟩
    · exact .inr (.inr ⟨‹_›, by simp only [Config.overdrawSamples] at *; omega, rfl⟩)
  · exact .inr (.inl ⟨by omega, rfl⟩)

/-- The class of a low that begins in its window is known by its rising edge (R77). -/
theorem classKnown_le (k : Nat) (l : Low) : classKnown k l ≤ l.start + l.width := by
  unfold classKnown
  split
  · exact Nat.le_refl _
  · omega

end Sys2Proof.Machine
end

