-- ==== Sys2Proof/Tests/Slice0.lean ====
section
/-! SUPPORT. Tests. Expected values come from the worked examples and tables of spec/ (the section is named at each),
or by hand from its rules. The last part shows, for every obligation with hypotheses, a state and operands that meet
them together, clause by clause. -/

set_option Elab.async false
set_option maxRecDepth 20000

namespace Sys2Proof.Tests

open Sys2Proof.Machine

/-! ### Small states -/

/-- The option record of the cabinet of 11.1: 32, 16, 212, 64, 69 (12.3). -/
def cabinet : Record := ⟨32, 16, 212, 64, 69⟩

/-- A station with the cabinet's record, strapped to an address, in a state. -/
def bay (a : Address) (m : Mode) : State :=
  { State.reset with resetHeld := false, oneTime := cabinet, address := a, record := cabinet, cause := .ok, mode := m }

/-- A LIVE replica with age 0. -/
def peer (a : Address) (holding demand : Nat) : Entry := ⟨a, .live, holding, demand, 0⟩

/-- A follower's record at the break end. -/
def followed (role : Role) : FrameRecord := ⟨role, 0, [], false, none, none, none, none, none⟩

/-- A receiver's record of a frame with the fields `f` that it has judged. -/
def judged (f : FrameFields) (v : Verdict) : FrameRecord :=
  ⟨.receiver, 950, (sealFrame f).marks, false, some v, none, none, none, none⟩

/-- The record of an own frame with the fields `f` at the break end. -/
def ownFrame (f : FrameFields) : FrameRecord :=
  ⟨.sender, 0, [], false, none, none, none, some (sealFrame f), none⟩

/-- A fresh intent. -/
def fresh : Intent := ⟨0, false, false⟩

/-- The command completes in a next state with the property. -/
def gives (c : Instr) (s : State) (p : State → Bool) : Bool :=
  match exec c s with
  | .next t => p t
  | _ => false

/-- The lows of a frame, acknowledged. -/
def acked (f : FrameFields) : List Low := (sealFrame f).lows true false

/-! ### Well-formedness: each check refuses an ill-formed term -/

theorem test_wf_badRequest : (Instr.badRequest 1).wellFormed = false := by decide
theorem test_wf_badRequest_last : (Instr.badRequest 10).wellFormed = false := by decide
theorem test_wf_breakPulse : (Instr.breakPulse 4).wellFormed = false := by decide
theorem test_wf_strayLow : (Instr.strayLow 4).wellFormed = false := by decide
theorem test_wf_lows_width : (Instr.lost [⟨25, 0⟩]).wellFormed = false := by decide
theorem test_wf_lows_order : (Instr.heardFrame ⟨1010, [⟨25, 10⟩, ⟨35, 10⟩]⟩).wellFormed = false := by decide
theorem test_wf_lows_break : (Instr.ownFrameOutcome ⟨1010, [⟨25, 60⟩], .nothing⟩).wellFormed = false := by decide
theorem test_wf_lows_bridged_break : (Instr.ownFrameOutcome ⟨1010, [⟨25, 30⟩, ⟨59, 26⟩], .nothing⟩).wellFormed = false :=
  by decide
theorem test_wf_good :
    [Instr.badRequest 11, .breakLimit 160, .breakPulse 5, .strayLow 5,
      .lost [⟨25, 10⟩, ⟨55, 10⟩], .heardFrame ⟨1010, []⟩].all Instr.wellFormed = true := by decide

/-! ### Formats and codes (12) -/

/-- 12.3: the cabinet's record passes through 224, 222 and 54 to 69, and is valid. -/
theorem test_record_check :
    crc8 (byteBits 32) = 224 ∧ crc8 (byteBits 32 ++ byteBits 16) = 222 ∧
    crc8 (byteBits 32 ++ byteBits 16 ++ byteBits 212) = 54 ∧ cabinet.checkOf = 69 ∧ cabinet.judge = .ok := by decide

/-- 11.1: unit 50 mA, T 20 microseconds, P 512 ms, R 128 ms, H 256 ms, DROOP ENABLE alone. -/
theorem test_record_fields :
    [cabinet.unit, cabinet.bitTime, cabinet.lease, cabinet.renew, cabinet.holdover] = [50, 20, 512, 128, 256] ∧
    [cabinet.lone, cabinet.droopEnable, cabinet.busWake] = [false, true, false] := by decide

/-- 12.2: the check of S9's RENEW with 8 and 8 is 111, the marks 01101111. -/
theorem test_renew_check :
    (sealFrame ⟨.renew, 9, 8, 8⟩).check = 111 ∧
    (sealFrame ⟨.renew, 9, 8, 8⟩).marks.drop 23
      = [.short, .long, .long, .short, .long, .long, .long, .long] := by decide

/-- 12.2: a receiver reads that RENEW back. -/
theorem test_renew_received : decodeFrame (readPositions (acked ⟨.renew, 9, 8, 8⟩)) = some ⟨.renew, 9, 8, 8⟩ := by
  decide

/-- 12.4: code bytes of the requests. -/
theorem test_request_bytes :
    [requestOfBytes [1], requestOfBytes [2, 9], requestOfBytes [5, 2, 0], requestOfBytes [10, 32, 16, 212, 64, 69],
      requestOfBytes [3], requestOfBytes [0], requestOfBytes [11, 7], requestOfBytes []]
      = [.status, .entry 9, .mask 2 0, .program 32 16 212 64 69, .selectRisesEarly, .badRequest 0, .badRequest 11,
        .selectRisesEarly] := by decide

/-- R161: the bits of ENTRY 9, most significant first; one bit fewer is a cut request. -/
theorem test_request_bits :
    requestOfBits (byteBits 2 ++ byteBits 9) = .entry 9 ∧
    requestOfBits ((byteBits 2 ++ byteBits 9).take 15) = .selectRisesEarly := by decide

/-- R161, R180: a reply of 1, 3 after one request byte, its bits 7 to 0, on SDO. -/
theorem test_sdo :
    let s := { bay 4 .member with reply := [1, 3] }
    [s.sdo false 1 7, s.sdo false 1 14, s.sdo false 1 15, s.sdo false 1 22, s.sdo false 1 24, s.sdo true 1 15]
      = [.low, .low, .high, .high, .low, .highImpedance] := by decide

/-- The table gives no bits. -/
theorem test_no_table_words : decodeTableWord 8 0 = none ∧ State.reset.withFetchWord 8 0 = State.reset := by decide

/-! ### Targets (11.1, 11.5, 11.6) -/

/-- 11.1: demands 12, 10, 6, 12 against 32. -/
theorem test_targets_cabinet :
    fairTargets 32 [peer 1 0 12, peer 4 0 10, peer 8 0 6, peer 12 0 12] = [(1, 9), (4, 9), (8, 6), (12, 8)] := by
  decide

/-- 11.5: S8 LAPSED with 6, so B′ is 26: targets 9, 9, 8. -/
theorem test_targets_lapsed :
    fairTargets 32 [peer 1 9 12, peer 4 9 10, ⟨8, .lapsed, 6, 6, 512⟩, peer 12 8 12]
      = [(1, 9), (4, 9), (12, 8)] := by decide

/-- 11.6: against 30, S8's view is 10, 9, 2, 9. -/
theorem test_targets_budget_30 :
    fairTargets 30 [peer 1 9 12, peer 4 9 10, peer 8 2 2, peer 12 8 12] = [(1, 10), (4, 9), (8, 2), (12, 9)] := by
  decide

/-! ### Reset and the local port -/

/-- 11.2: a valid record enters START with RESTARTED latched and ATTN low. -/
theorem test_read_event_valid :
    gives (.readEvent ⟨4, false, false⟩) { State.reset with oneTime := cabinet }
      (fun t => t.mode == .start && t.attnLow && t.latched .restarted && t.address == 4) = true := by decide

/-- 7.1: a blank record enters UNCONFIGURED with cause BLANK. -/
theorem test_read_event_blank :
    gives (.readEvent ⟨4, false, false⟩) State.reset
      (fun t => t.mode == .unconfigured && t.cause == .blank && t.attnLow) = true := by
  decide

/-- RESET keeps the one-time memory and nothing else (R118). -/
theorem test_reset : gives .reset (bay 4 .member) (fun t => t == { State.reset with oneTime := cabinet }) = true := by
  decide

/-- 12.6: a pending-event set of RESTARTED and OUTPUT reads 0, 48. -/
theorem test_status_events :
    gives .status { bay 4 .member with latch := 48, holding := 9 }
      (fun t => t.reply == [1, 3, 0, 4, 9, 0, 0, 0, 0, 0, 9, 0, 0, 48]) = true := by decide

/-- R164: an address of 16 is refused. -/
theorem test_entry_sixteen : gives (.entry 16) (bay 4 .member) (fun t => t.reply == [3]) = true := by decide

/-- R164: a LAPSED entry of age 513 (2, 1). -/
theorem test_entry_lapsed :
    gives (.entry 8) { bay 4 .member with replicas := [⟨8, .lapsed, 6, 6, 513⟩] }
      (fun t => t.reply == [1, 1, 2, 6, 6, 2, 1]) = true := by decide

/-- 12.3: the record as read, cause OK, the address. -/
theorem test_options : gives .options (bay 4 .member) (fun t => t.reply == [1, 32, 16, 212, 64, 69, 0, 4]) = true := by
  decide

/-- R166: 17 is cut to the ceiling 16; 11.3: alone in W, the target equals the demand and a CLAIM with the notice is
queued. -/
theorem test_demand_clipped :
    gives (.demand 17) (bay 4 .member)
      (fun t => t.reply == [2] && t.target == 16 && t.outbox.claim == some ⟨0, true, false⟩) = true := by decide

/-- R153: CLEAR outside FAULT is refused. -/
theorem test_clear_refused : gives .clear (bay 4 .member) (fun t => t == { bay 4 .member with reply := [3] }) = true := by
  decide

/-- R132: an idle MEMBER sleeps. -/
theorem test_sleep : gives .sleep (bay 4 .member) (fun t => t.mode == .dormant && t.reply == [1]) = true := by decide

/-- R132: a holding refuses SLEEP. -/
theorem test_sleep_refused :
    gives .sleep { bay 4 .member with holding := 1, rampTarget := 1 } (fun t => t.reply == [3]) = true := by decide

/-- R168: RELEARN gives the holding up with a YIELD ahead of the CENSUS. -/
theorem test_relearn :
    gives .relearn { bay 4 .member with holding := 6, rampTarget := 6, level := 6, requested := 6 }
      (fun t => t.mode == .isolated && t.level == 0 && t.outbox.yield.isSome && t.outbox.census.isSome
        && t.outbox.renew.isNone) = true := by decide

/-- R123: PROGRAM, its completion, RESET and the read event make a blank part a station in START. -/
theorem test_program_write :
    gives .programWriteComplete { bay 4 .unconfigured with writing := some cabinet, oneTime := Record.blank }
      (fun t => t.oneTime == cabinet && t.writing.isNone) = true := by decide

/-- R123: a second PROGRAM is refused. -/
theorem test_program_twice :
    gives (.program 32 16 212 64 69) { bay 4 .unconfigured with cause := .blank, written := true }
      (fun t => t.reply == [3] && t.writing.isNone) = true := by decide

/-- 11.5: of OUTPUT, ISOLATED and ROSTER, TAKE returns ISOLATED, code 3, first. -/
theorem test_take :
    gives .take { bay 8 .member with latch := 32 + 4 + 512 }
      (fun t => t.reply == [1, 3] && t.latch == 32 + 512) = true := by decide

/-- 12.6: high byte 2, low byte 0 masks ROSTER alone. -/
theorem test_mask :
    gives (.mask 2 0) (bay 4 .member) (fun t => EventKind.all.filter t.masked == [.roster]) = true := by decide

/-- R162: BAD REQUEST, and no reply to a cut request. -/
theorem test_bad_request :
    gives (.badRequest 0) (bay 4 .member) (fun t => t.reply == [4]) = true ∧
    gives .selectRisesEarly (bay 4 .member) (fun t => t == bay 4 .member) = true := by decide

/-- R118, R162: a transaction whose select fell before the read event is ignored, and the next one is taken. -/
theorem test_straddling :
    gives (.readEvent ⟨4, false, true⟩) { State.reset with oneTime := cabinet } (fun t => t.straddling) = true ∧
    gives (.demand 5) { bay 4 .start with straddling := true } (fun t => t == bay 4 .start) = true := by decide

/-- R135: a refused request wakes a station in DORMANT too. -/
theorem test_dormant_clear :
    gives .clear (bay 4 .dormant) (fun t => t.mode == .start && t.reply == [3]) = true := by decide

/-! ### The share line -/

/-- The cabinet's record with BUS WAKE set, for the wake detector. -/
def wakeable : State := { bay 4 .dormant with record := ⟨32, 16, 212, 96, 69⟩ }

/-- R134: armed after 24T, and the edge wakes the station; that low opens no frame to a receiver (R82). -/
theorem test_wake_detector :
    gives (.wakeDetectorArmed 239) wakeable (fun t => !t.wakeArmed) = true ∧
    gives (.wakeDetectorArmed 240) wakeable (fun t => t.wakeArmed) = true ∧
    gives .busWake { wakeable with wakeArmed := true }
      (fun t => t.mode == .start && t.lineLow == some (.seen false) && t.roleAtBreak == .onlooker) = true := by decide

/-- R134: the falling edge that a low tells of while it stands, or at its end, wakes an armed detector. -/
theorem test_wake_by_low :
    gives (.breakPulse 60) { wakeable with wakeArmed := true }
      (fun t => t.mode == .start && t.opening == some ⟨.onlooker, none, 0⟩) = true ∧
    gives (.strayLow 10) { wakeable with wakeArmed := true } (fun t => t.mode == .start && t.lineLow.isNone) = true := by
  decide

/-- 11.2: the join quiet of 24T queues a CENSUS. -/
theorem test_join_quiet :
    gives (.joinQuiet 240) (bay 4 .start) (fun t => t.outbox.census.isSome && t.joinCondition) = true ∧
    gives (.joinQuiet 239) (bay 4 .start) (fun t => t.outbox.census.isNone) = true := by decide

/-- S4 before frame A4 of 11.3: it sees 12, 6 and 12 held, and claims 2. -/
def beforeA4 : State :=
  { bay 4 .member with
    replicas := [peer 1 12 12, peer 8 6 6, peer 12 12 12], requested := 10, target := 9, synchronised := true
    outbox := { Outbox.empty with claim := some ⟨0, true, false⟩ } }

/-- 11.3, A4: S4 CLAIM (2, 10) after the idle gap of 6T. -/
theorem test_break_start_claim :
    gives (.breakStart 60) beforeA4
      (fun t => t.shareDriven && t.transmitter == .breaking
        && (t.followed.bind FrameRecord.sent).map SentFrame.fields == some ⟨.claim, 4, 2, 10⟩) = true := by decide

/-- 11.6: S4 with its backoff waits 6T + 15T = 21T. -/
theorem test_break_start_backoff :
    gives (.breakStart 209) { beforeA4 with outbox := { beforeA4.outbox with backoff := true } }
      (fun t => t.opening.isNone) = true ∧
    gives (.breakStart 210) { beforeA4 with outbox := { beforeA4.outbox with backoff := true } }
      (fun t => t.opening.isSome) = true := by decide

/-- A RENEW of the own whose break is on the line, and the same after the break end. -/
def breaking : State :=
  { bay 4 .member with
    opening := some ⟨.sender, some (sealFrame ⟨.renew, 4, 0, 0⟩), 0⟩, lineLow := some (.seen true)
    outbox := { Outbox.empty with inFlight := some ⟨.renew, fresh, false⟩ } }

def renewing : State := { breaking with opening := none, lineLow := none, frame := some (ownFrame ⟨.renew, 4, 0, 0⟩) }

/-- R66, R75: SHARE is let go after 8T; the line low 16T after the own break start is another's, and is followed. -/
theorem test_break_limit :
    gives (.breakLimit 79) breaking State.shareDriven = true ∧
    gives (.breakLimit 80) breaking (fun t => !t.shareDriven && t.transmitter == .breaking) = true ∧
    gives (.breakLimit 160) breaking
      (fun t => t.outbox.renew == some ⟨1, false, false⟩ && t.outbox.backoff && !t.sending
        && t.opening == some ⟨.receiver, none, 0⟩) = true := by decide

/-- R65, R42: 6T opens a frame, less does not; CLEAR within those 6T makes no receiver. -/
theorem test_break_pulse :
    gives (.breakPulse 60) (bay 4 .member) (fun t => t.opening == some ⟨.receiver, none, 0⟩) = true ∧
    gives (.breakPulse 59) (bay 4 .fault) (fun t => t.opening.isNone && t.lineLow == some (.seen false)) = true ∧
    gives (.breakPulse 60) { bay 4 .start with lineLow := some (.seen false) }
      (fun t => t.opening == some ⟨.onlooker, none, 0⟩) = true := by decide

/-- R64: a low that stood as the filter started is not classified, and ends as no break however long it was. -/
theorem test_low_not_seen_to_begin :
    gives (.breakPulse 60) { bay 4 .start with lineLow := some .unseen } (fun t => t.opening.isNone) = true ∧
    gives (.strayLow 90) { bay 4 .start with lineLow := some .unseen } (fun t => t.lineLow.isNone) = true := by decide

/-- R73: a stray low starts the quiet again. -/
theorem test_stray_low :
    gives (.strayLow 10) { bay 4 .member with highTime := 45 } (fun t => t.highTime == 0) = true := by decide

/-- R64: a low of 0.4T is removed, a high of 0.4T is bridged, and 0.5T passes. -/
theorem test_filter :
    filterLows [⟨20, 4⟩, ⟨30, 10⟩] = [⟨30, 10⟩] ∧ filterLows [⟨30, 5⟩, ⟨39, 2⟩, ⟨50, 5⟩] = [⟨30, 11⟩, ⟨50, 5⟩] ∧
    filterLows [⟨30, 5⟩, ⟨40, 5⟩] = [⟨30, 5⟩, ⟨40, 5⟩] := by decide

/-- Log 35: a low of 1T, a high of 0.4T and a low of 0.2T: the filter bridges first. -/
theorem test_filter_order : filterLows [⟨20, 10⟩, ⟨34, 2⟩, ⟨46, 10⟩] = [⟨20, 16⟩, ⟨46, 10⟩] := by decide

/-- S1 with a CLAIM of 12, 12 on the line. -/
def claimingS1 : State :=
  { bay 1 .member with
    requested := 12, target := 12, frame := some (ownFrame ⟨.claim, 1, 12, 12⟩)
    outbox := { Outbox.empty with inFlight := some ⟨.claim, fresh, false⟩ } }

/-- 11.3, A2: the higher address wins; the loser (here S1 against S12's CLAIM) is not counted and receives. -/
theorem test_lost :
    gives (.lost (acked ⟨.claim, 12, 12, 12⟩)) claimingS1
      (fun t => t.outbox.claim == some fresh && !t.outbox.backoff && t.frame.map FrameRecord.role == some .receiver
        && t.frame.map FrameRecord.marks == some [.long, .short, .long, .long]) = true := by decide

/-- R77: the loss is taken at the long mark's rising edge, though a second low follows in that position. -/
theorem test_lost_at_rising_edge :
    gives (.ownFrameOutcome ⟨130, [⟨25, 20⟩, ⟨55, 10⟩, ⟨85, 20⟩, ⟨115, 15⟩], .nothing⟩) claimingS1
      (fun t => t.frame.map FrameRecord.mismatch == some (some (.lost, 3)) && !t.sending) = true ∧
    gives (.lost [⟨25, 20⟩, ⟨55, 10⟩, ⟨85, 20⟩, ⟨115, 15⟩, ⟨135, 5⟩]) claimingS1
      (fun t => t.frame.map FrameRecord.elapsed == some 130 && t.outbox.claim == some fresh) = true := by decide

/-- R77, R78: a missing low is known when its window closes, at 90 for position 2. -/
theorem test_missing_low :
    gives (.ownFrameOutcome ⟨89, [⟨25, 20⟩, ⟨55, 10⟩], .nothing⟩) claimingS1
      (fun t => t.transmitter == .header && t.shareDriven) = true ∧
    gives (.ownFrameOutcome ⟨90, [⟨25, 20⟩, ⟨55, 10⟩], .nothing⟩) claimingS1
      (fun t => t.transmitter == .slots) = true := by
  decide

/-- R77: a low of 2.6T or 3.6T at position 2 is known before position 3 begins, whose mark is not driven. -/
theorem test_symbol_error_known :
    gives (.ownFrameOutcome ⟨109, [⟨25, 20⟩, ⟨55, 10⟩, ⟨85, 26⟩], .nothing⟩) claimingS1
      (fun t => t.transmitter == .header) = true ∧
    gives (.ownFrameOutcome ⟨110, [⟨25, 20⟩, ⟨55, 10⟩, ⟨85, 26⟩], .nothing⟩) claimingS1
      (fun t => t.transmitter == .slots && !t.shareDriven) = true ∧
    gives (.ownFrameOutcome ⟨125, [⟨25, 20⟩, ⟨55, 10⟩, ⟨85, 36⟩], .nothing⟩) claimingS1
      (fun t => t.frame.map FrameRecord.mismatch == some (some (.readback, 2)) && !t.shareDriven) = true := by decide

/-- R101: the self lease behind an acceptance at the same moment clears the collection; taken after it, it is not
reached (R112). -/
theorem test_self_lease_behind :
    let s := { claimingS1 with ownAge := 512, outbox := { claimingS1.outbox with renew := some fresh } }
    gives (.ownFrameOutcome ⟨1010, acked ⟨.claim, 1, 12, 12⟩, .selfLease⟩) s
      (fun t => t.mode == .isolated && t.holding == 0 && t.outbox.renew.isNone && t.outbox.census.isSome
        && t.ownAge == 0) = true ∧
    gives (.ownFrameOutcome ⟨1010, acked ⟨.claim, 1, 12, 12⟩, .nothing⟩) s
      (fun t => t.mode == .member && t.holding == 12 && gives .selfLease t (fun u => u == t)) = true := by decide

/-- R70: after the loss, a second low in the span of the lost position is a symbol error. -/
theorem test_second_low_after_loss :
    gives (.heardFrame ⟨140, [⟨25, 20⟩, ⟨55, 10⟩, ⟨85, 20⟩, ⟨115, 15⟩, ⟨135, 5⟩]⟩)
      { claimingS1 with
        frame := some ⟨.receiver, 140, [.long, .short, .long, .long], false, none, none, none, none, some (.lost, 3)⟩ }
      (fun t => t.frame.map FrameRecord.symbolError == some true) = true := by decide

/-- S1 in 11.3 before A4, following the frame. -/
def s1HearsA4 : State :=
  { bay 1 .member with
    replicas := [peer 4 0 0, peer 8 6 6, peer 12 12 12], requested := 12, target := 12, holding := 12, rampTarget := 12
    level := 7, frame := some (followed .receiver) }

/-- 11.3, A4 heard at S1: the target is 9, it yields to 9 at once, its level stays 7, a YIELD is queued. -/
theorem test_heard_frame :
    gives (.heardFrame ⟨1010, (acked ⟨.claim, 4, 2, 10⟩)⟩) s1HearsA4
      (fun t => t.target == 9 && t.holding == 9 && t.level == 7 && t.outbox.yield.isSome
        && findEntry 4 t.replicas == some (peer 4 2 10)) = true := by decide

/-- S8 of 11.6 with B = 30 before V2. -/
def s8HearsV2 : State :=
  { bay 8 .member with
    record := ⟨30, 16, 212, 64, 0⟩, replicas := [peer 1 9 12, peer 4 9 10, peer 12 10 12], requested := 2, target := 2
    holding := 2, rampTarget := 2, level := 2, frame := some (followed .receiver) }

/-- R67, R64, R73 (log 6): an ACK driven from 95T to 97T is low on the filtered line until 97T + T/2, so 97.8T finds the
line high for 3T/10, and 97.4T finds it low. -/
theorem test_quiet_in_frame :
    gives (.heardFrame ⟨978, (acked ⟨.claim, 4, 2, 10⟩)⟩) s1HearsA4 (fun t => t.highTime == 3) = true ∧
    gives (.heardFrame ⟨974, (acked ⟨.claim, 4, 2, 10⟩)⟩) s1HearsA4 (fun t => t.highTime == 0) = true := by decide

/-- 11.6, V2 heard at S8: 31 exceeds 30, the claim is voided, in the VOID slot, and no roster entry changes. -/
theorem test_heard_frame_budget_void :
    gives (.heardFrame ⟨980, (acked ⟨.claim, 4, 10, 10⟩)⟩) s8HearsV2
      (fun t => t.shareDriven && t.frame.bind FrameRecord.verdict == some .voidBudget) = true ∧
    gives (.heardFrame ⟨1010, (acked ⟨.claim, 4, 10, 10⟩)⟩) s8HearsV2
      (fun t => t.replicas == s8HearsV2.replicas && t.voidRun == 0) = true := by decide

/-- R42, R43: a verdict reached at the judgement point stands, though the claim would fit no more, or fit now. -/
theorem test_verdict_stands :
    gives (.heardFrame ⟨1010, (acked ⟨.claim, 4, 10, 10⟩)⟩)
      { s8HearsV2 with frame := some (judged ⟨.claim, 4, 10, 10⟩ .ack) }
      (fun t => findEntry 4 t.replicas == some (peer 4 10 10)) = true ∧
    gives (.heardFrame ⟨1010, (acked ⟨.claim, 4, 9, 10⟩)⟩)
      { s8HearsV2 with frame := some (judged ⟨.claim, 4, 9, 10⟩ .voidBudget) }
      (fun t => t.replicas == s8HearsV2.replicas) = true := by decide

/-- 11.3, A1: S1's CLAIM is accepted, its holding is 12. -/
theorem test_own_frame_accepted :
    gives (.ownFrameOutcome ⟨1010, (acked ⟨.claim, 1, 12, 12⟩), .nothing⟩) claimingS1
      (fun t => t.holding == 12 && t.level == 0 && t.rampTarget == 12 && t.latched .output) = true := by decide

/-- R76, R83: the header's last mark of S1's CLAIM, 1, is driven for 2T; from the payload on it is not the header. -/
theorem test_own_frame_marks :
    gives (.ownFrameOutcome ⟨219, ((acked ⟨.claim, 1, 12, 12⟩).take 7), .nothing⟩) claimingS1
      (fun t => t.shareDriven && t.transmitter == .header) = true ∧
    gives (.ownFrameOutcome ⟨230, ((acked ⟨.claim, 1, 12, 12⟩).take 7), .nothing⟩) claimingS1
      (fun t => t.transmitter == .payload) = true := by decide

/-- R80: with no ACK and LONE clear the frame is unheard and counted. -/
theorem test_own_frame_unheard :
    gives (.ownFrameOutcome ⟨1010, ((sealFrame ⟨.claim, 1, 12, 12⟩).lows false false), .nothing⟩) claimingS1
      (fun t => t.outbox.claim == some ⟨1, false, false⟩ && t.outbox.backoff && t.holding == 0) = true := by decide

/-- R129: 40T of quiet closes the window, 39.9T does not. -/
theorem test_quiet_close :
    gives (.quietClose 400) { bay 4 .learning with windowCap := some 0 } (fun t => t.mode == .member) = true ∧
    gives (.quietClose 399) { bay 4 .learning with windowCap := some 0 } (fun t => t.mode == .learning) = true := by
  decide

/-! ### The lease clock -/

/-- R129: the cap at R = 128 ms. -/
theorem test_cap :
    gives .cap { bay 4 .learning with windowCap := some 128 } (fun t => t.mode == .member) = true ∧
    gives .cap { bay 4 .learning with windowCap := some 127 } (fun t => t.mode == .learning) = true := by decide

/-- S4 of 11.5 at 512: S8 lapses, the target stays 9. -/
theorem test_lapse :
    gives (.lapse 8)
      { bay 4 .member with
        replicas := [peer 1 9 12, ⟨8, .live, 6, 6, 512⟩, peer 12 8 12], holding := 9, rampTarget := 9, requested := 10 }
      (fun t => t.target == 9 && findEntry 8 t.replicas == some ⟨8, .lapsed, 6, 6, 512⟩ && t.latched .roster
        && t.outbox.claim.isNone) = true := by decide

/-- S4 of 11.5 at 768: S8 is removed, the target is 10 and a CLAIM is queued. -/
theorem test_removal :
    gives (.removal 8)
      { bay 4 .member with
        replicas := [peer 1 9 12, ⟨8, .lapsed, 6, 6, 768⟩, peer 12 8 12], holding := 9, rampTarget := 9
        requested := 10, target := 9 }
      (fun t => t.target == 10 && findEntry 8 t.replicas == none && t.outbox.claim.isSome) = true := by decide

/-- S8 of 11.5 at 512: ISOLATED, holding and level 0, OUTPUT and ISOLATED latched, a CENSUS alone. -/
theorem test_self_lease :
    gives .selfLease { bay 8 .member with ownAge := 512, holding := 6, rampTarget := 6, level := 6, requested := 6 }
      (fun t => t.mode == .isolated && t.holding == 0 && t.level == 0 && t.latch == 32 + 4
        && t.outbox.census.isSome && t.outbox.yield.isNone) = true := by decide

/-- 11.2: a renew timer that becomes due with nothing held or wanted queues nothing. -/
theorem test_renew_timer :
    gives .renewTimerExpiry { bay 4 .member with renewTimer := .running 128 }
      (fun t => t.renewTimer == .due && t.outbox.renew.isNone) = true := by decide

/-- 5.10: the renew timer's RENEW joins the collection at once, whatever is in flight; R101: one behind an acceptance at
the same moment stays. -/
theorem test_renew_with_frame_in_flight :
    let s := { claimingS1 with holding := 6, rampTarget := 6, renewTimer := .running 128 }
    gives .renewTimerExpiry s (fun t => t.outbox.renew == some fresh && t.outbox.inFlight.isSome) = true ∧
    gives (.ownFrameOutcome ⟨1010, acked ⟨.claim, 1, 12, 12⟩, .renewTimer⟩) s
      (fun t => t.holding == 12 && t.renewTimer == .running 0 && t.outbox.renew == some fresh) = true := by decide

/-- R37: suppression lifts after R and the claim follows. -/
theorem test_suppression_timer :
    gives .suppressionTimerExpiry { bay 4 .member with suppression := some 128, requested := 10 }
      (fun t => t.suppression.isNone && t.outbox.claim.isSome) = true := by decide

/-- R93: after P a fresh CENSUS in ISOLATED. -/
theorem test_census_retry :
    gives .censusRetryTimerExpiry { bay 8 .isolated with censusRetry := some 512 }
      (fun t => t.outbox.census.isSome && t.censusRetry.isNone) = true := by decide

/-- R158: 2P = 1024 ms in MUTE. -/
theorem test_mute_wait :
    gives .muteWaitExpiry { bay 4 .mute with muteWait := some 1024 } (fun t => t.mode == .start) = true ∧
    gives .muteWaitExpiry { bay 4 .mute with muteWait := some 1023 } (fun t => t.mode == .mute) = true := by decide

/-- R102: one tick on an empty queue; the lapse of S8 falls due and joins the queue. -/
theorem test_tick :
    (match step { bay 4 .member with replicas := [⟨8, .live, 6, 6, 511⟩] } with
      | .next t => t.ownAge == 1 && t.pending == [.lapse 8]
      | _ => false) = true := by decide

/-- A station in FAULT with a roster, a YIELD waiting and latched events. -/
def faulted : State :=
  { bay 4 .fault with
    faultCause := .clash, replicas := [peer 1 9 12], latch := 33, requested := 10
    outbox := { Outbox.empty with yield := some fresh } }

/-- A MEMBER that holds 6 of a demand of 6. -/
def holder : State :=
  { bay 8 .member with holding := 6, rampTarget := 6, level := 6, requested := 6, target := 6, ownAge := 512 }

/-! ### The load side -/

/-- R138: one unit for each step. -/
theorem test_ramp :
    gives .rampStep { bay 4 .member with holding := 9, rampTarget := 9, level := 2 }
      (fun t => t.level == 3 && t.settle == 8) = true := by decide

/-- R140: the fourth valid sample above the level + 1 reports the overdraw; at the level + 1 it is none. -/
theorem test_sample_overdraw :
    gives (.sample ⟨2, .nothing⟩) { bay 4 .start with overdrawRun := 3 }
      (fun t => t.mode == .fault && t.faultCause == .overdraw) = true ∧
    gives (.sample ⟨1, .nothing⟩) { bay 4 .start with overdrawRun := 3 }
      (fun t => t.mode == .start && t.overdrawRun == 0) = true := by
  decide

/-- R112, R154, R159: with a self lease, a CLEAR or the mute wait's end taken first, the report still enters FAULT at
that sample, from START with cause OVERDRAW too. -/
theorem test_sample_between :
    gives (.sample ⟨8, .selfLease⟩) { holder with overdrawRun := 3 }
      (fun t => t.mode == .fault && t.latched .isolated && t.latched .fault && t.outbox.census.isNone) = true ∧
    gives (.sample ⟨2, .clear⟩) { faulted with overdrawRun := 3 }
      (fun t => t.mode == .fault && t.faultCause == .overdraw && t.reply == [1] && t.replicas == []) = true ∧
    gives (.sample ⟨2, .muteWait⟩) { bay 4 .mute with muteWait := some 1024, overdrawRun := 3, voidRun := 8 }
      (fun t => t.mode == .fault && t.muteWait.isNone && t.voidRun == 0) = true := by decide

/-- R141: the sixteenth valid sample below the level − 2 sets UNDER. -/
theorem test_sample_under :
    gives (.sample ⟨0, .nothing⟩) { bay 4 .member with holding := 3, rampTarget := 3, level := 3, underRun := 15 }
      (fun t => t.under && t.latched .under) = true := by decide

/-- 11.4 at 38.6, S4: the ramp is cut at 5, droop hold is set, DROOP and OUTPUT are latched, a YIELD is queued. -/
theorem test_droop_assertion :
    gives .droopAssertion { bay 4 .member with holding := 9, rampTarget := 9, level := 5, requested := 10 }
      (fun t => t.holding == 0 && t.level == 0 && t.droopHold && t.latch == 8 + 32 && t.outbox.yield.isSome
        && t.outbox.renew.isNone) = true := by decide

/-- 11.4 at 60.1: the recovery timer starts. -/
theorem test_droop_deassertion :
    gives .droopDeassertion { bay 4 .member with supplyLow := true, droopHold := true }
      (fun t => t.recovery == some 0 && t.droopHold) = true := by decide

/-- 11.4 at 188.1, S12: alone in W, a CLAIM with the notice is queued. -/
theorem test_recovery :
    gives .recoveryTimerExpiry
      { bay 12 .member with
        replicas := [peer 1 0 0, peer 4 0 0, peer 8 0 0], droopHold := true, recovery := some 128, requested := 12 }
      (fun t => !t.droopHold && t.target == 12 && t.outbox.claim == some ⟨0, true, false⟩) = true := by decide

/-! ### Witnesses: the hypotheses of each obligation, clause by clause -/

/-- A completed command, for hypotheses of the form "exec answers next t". -/
def after (c : Instr) (s : State) : State :=
  match exec c s with
  | .next t => t
  | _ => State.reset

/-- Log 39: a low that comes to 6T exactly at the judgement point. One report through that moment takes the break first,
and R71 leaves the void run; told before it has come to 6T, the frame is judged, a reception error (R48), and then cut. -/
theorem test_break_at_judgement :
    gives (.heardFrame ⟨950, [⟨890, 60⟩]⟩) s1HearsA4 (fun t => t.frame.isNone && t.opening.isSome && t.voidRun == 0)
      = true ∧
    gives (.breakPulse 60) (after (.heardFrame ⟨950, [⟨890, 59⟩]⟩) s1HearsA4)
      (fun t => t.frame.isNone && t.opening.isSome && t.voidRun == 1) = true := by decide

theorem test_witness_EmptyQueueIsOneLeaseTick :
    State.reset.pending = [] ∧ State.reset.resetHeld = true ∧
    (bay 4 .member).pending = [] ∧ (bay 4 .member).resetHeld = false := by decide

theorem test_witness_ResetEndsEverything :
    (bay 4 .member).writing = none ∧ { bay 4 .unconfigured with writing := some cabinet }.writing = some cabinet := by
  decide

theorem test_witness_ReadEventEntersStartOrUnconfigured :
    State.reset.resetHeld = true ∧ State.reset.oneTime.judge ≠ .ok ∧
    { State.reset with oneTime := cabinet }.resetHeld = true ∧
    { State.reset with oneTime := cabinet }.oneTime.judge = .ok := by decide

/-- One record for each line of the table; B = 1, C = 1, T = 10 microseconds (code 0) and P = 256 ms is valid, and
T = 50 microseconds with P = 256 ms is too slow (64 ms against 92 ms). -/
theorem test_witness_RecordJudgedByFirstLineThatApplies :
    Record.blank.bytes = [255, 255, 255, 255, 255] ∧ Record.blank.judge = .blank ∧
    { cabinet with b5 := 70 }.b5 ≠ cabinet.checkOf ∧ { cabinet with b5 := 70 }.judge = .check ∧
    (⟨0, 16, 212, 64, (Record.checkOf ⟨0, 16, 212, 64, 0⟩)⟩ : Record).judge = .budget ∧
    (⟨32, 16, 212, 65, (Record.checkOf ⟨32, 16, 212, 65, 0⟩)⟩ : Record).judge = .format ∧
    (⟨32, 16, 32, 0, (Record.checkOf ⟨32, 16, 32, 0, 0⟩)⟩ : Record).judge = .timing ∧
    (⟨1, 1, 0, 0, (Record.checkOf ⟨1, 1, 0, 0, 0⟩)⟩ : Record).judge = .ok := by decide

theorem test_witness_RecordHeldUntilReset :
    exec .programWriteComplete { bay 4 .unconfigured with writing := some cabinet, oneTime := Record.blank }
      = .next (bay 4 .unconfigured) ∧
    (bay 4 .unconfigured).oneTime ≠ Record.blank := ⟨rfl, by decide⟩

theorem test_witness_UnconfiguredUntilReset :
    (bay 4 .unconfigured).resetHeld = false ∧ (bay 4 .unconfigured).mode = .unconfigured ∧
    (bay 4 .unconfigured).SilentInv ∧ State.reset.resetHeld = true ∧ State.reset.SilentInv ∧
    exec .clear (bay 4 .unconfigured) = .next { bay 4 .unconfigured with reply := [3] } ∧
    step State.reset = .next State.reset := by
  refine ⟨rfl, rfl, ?_, rfl, ?_, rfl, rfl⟩ <;> unfold State.SilentInv <;> decide

theorem test_witness_StatusReportsTheStation :
    (bay 4 .member).resetHeld = false ∧ (bay 4 .member).straddling = false ∧ (bay 4 .member).mode ≠ .unconfigured ∧
    (bay 4 .member).mode ≠ .dormant ∧
    (bay 4 .unconfigured).resetHeld = false ∧ (bay 4 .unconfigured).straddling = false ∧
    (bay 4 .unconfigured).mode = .unconfigured := by decide

/-- Addresses 16 (refused), 15 with an entry, 14 with none, and 4, the own. -/
theorem test_witness_EntryReportsOneRosterEntry :
    let s := { bay 4 .member with replicas := [peer 15 6 6] }
    s.resetHeld = false ∧ s.straddling = false ∧ 16 ≤ (16 : Byte).toNat ∧
    (15 : Byte).toNat < 16 ∧ findEntry ((15 : Byte).setWidth 4) s.roster = some (peer 15 6 6) ∧
    findEntry ((14 : Byte).setWidth 4) s.roster = none ∧
    (4 : Byte).setWidth 4 = s.address ∧ s.mode ≠ .unconfigured ∧ s.mode ≠ .dormant := by decide

theorem test_witness_OptionsReportsRecordAsRead :
    (bay 4 .unconfigured).resetHeld = false ∧ (bay 4 .unconfigured).straddling = false ∧
    (bay 4 .unconfigured).mode ≠ .dormant := by decide

/-- FAULT latched and masked, ROSTER latched and unmasked: ROSTER is the one handed over; then nothing unmasked. -/
theorem test_witness_TakeHandsOverHighestPriority :
    let s := { bay 4 .member with latch := 513, mask := 1 }
    let u := { bay 4 .member with latch := 1, mask := 1 }
    s.resetHeld = false ∧ s.straddling = false ∧ s.HoldingInv ∧ s.latched .roster = true ∧ s.masked .roster = false ∧
    (∀ j : EventKind, s.latched j = true → s.masked j = false → EventKind.roster.code ≤ j.code) ∧
    s.masked .fault = true ∧
    u.resetHeld = false ∧ u.straddling = false ∧ (∀ k : EventKind, u.latched k = true → u.masked k = true) :=
  ⟨rfl, rfl, Or.inl rfl, rfl, rfl, fun j => by cases j <;> decide, rfl, rfl, rfl, fun k => by cases k <;> decide⟩

theorem test_witness_MaskAndAttnFollowTheRules :
    let s := { bay 4 .member with latch := 512 }
    s.resetHeld = false ∧ s.straddling = false ∧ s.HoldingInv ∧ s.mode ≠ .dormant ∧ s.latched .roster = true ∧
    s.masked .roster = false ∧
    s.attnLow = true ∧ (after (.mask 2 0) s).attnLow = false ∧
    State.reset.resetHeld = true ∧
    exec (.readEvent ⟨4, true, false⟩) State.reset = .next (after (.readEvent ⟨4, true, false⟩) State.reset) :=
  ⟨rfl, rfl, Or.inl rfl, by decide, rfl, rfl, rfl, rfl, rfl, rfl⟩

/-- A demand at the ceiling 16 (not cut), one above it (cut), an unchanged one, and one in droop hold. -/
theorem test_witness_DemandSetsRequestedDemand :
    let s := { bay 4 .member with requested := 16 }
    (bay 4 .unconfigured).resetHeld = false ∧ (bay 4 .unconfigured).straddling = false ∧
    (bay 4 .unconfigured).mode = .unconfigured ∧
    s.resetHeld = false ∧ s.straddling = false ∧ s.mode ≠ .dormant ∧ s.mode ≠ .unconfigured ∧
    (after (.demand 16) s).requested = s.requested ∧ (after (.demand 17) s).reply = [2] ∧
    (after (.demand 15) { s with droopHold := true }).requested ≠ s.requested := by decide

theorem test_witness_ChangedDemandIsAnnounced :
    (bay 4 .member).resetHeld = false ∧ (bay 4 .member).straddling = false ∧ (bay 4 .start).straddling = false ∧
    (bay 4 .member).droopHold = false ∧
    min (10 : Byte).toNat (bay 4 .member).ceiling ≠ (bay 4 .member).requested ∧ (bay 4 .member).mode = .member ∧
    (bay 4 .start).droopHold = false ∧ (bay 4 .start).mode = .start ∧ (bay 4 .start).holding = 0 ∧
    min (10 : Byte).toNat (bay 4 .start).ceiling ≠ (bay 4 .start).requested := by decide

theorem test_witness_ClearLeavesFaultForStart :
    faulted.resetHeld = false ∧ faulted.straddling = false ∧ (bay 4 .member).straddling = false ∧
    faulted.mode = .fault ∧ faulted.holding = 0 ∧
    (bay 4 .member).mode ≠ .fault ∧ (bay 4 .member).mode ≠ .dormant := by decide

theorem test_witness_SleepEntersDormantOnlyWhenIdle :
    (bay 4 .member).resetHeld = false ∧ (bay 4 .member).straddling = false ∧ (bay 4 .member).mode ≠ .dormant ∧
    (bay 4 .member).mode = .member ∧
    (bay 4 .member).holding = 0 ∧ (bay 4 .member).requested = 0 ∧
    (bay 4 .member).outbox = { Outbox.empty with backoff := (bay 4 .member).outbox.backoff } ∧
    { bay 4 .member with requested := 1 }.requested ≠ 0 := by decide

theorem test_witness_RelearnEntersIsolated :
    holder.resetHeld = false ∧ holder.straddling = false ∧ (bay 4 .start).straddling = false ∧ holder.mode = .member ∧
    holder.OutputInv ∧ holder.RosterInv ∧
    (bay 4 .start).mode ≠ .member ∧ (bay 4 .start).mode ≠ .isolated ∧ (bay 4 .start).mode ≠ .dormant :=
  ⟨rfl, rfl, rfl, rfl, ⟨rfl, by decide⟩, ⟨rfl, rfl⟩, by decide, by decide, by decide⟩

theorem test_witness_ProgramWritesTheRecordOnce :
    let s := { bay 4 .unconfigured with cause := .blank }
    s.resetHeld = false ∧ s.straddling = false ∧ (bay 4 .member).straddling = false ∧ s.mode ≠ .dormant ∧
    s.mode = .unconfigured ∧ s.cause = .blank ∧ s.written = false ∧
    (bay 4 .member).mode ≠ .unconfigured ∧ { s with writing := some cabinet }.writing = some ⟨32, 16, 212, 64, 69⟩ := by
  decide

/-- Codes 0 and 11; ENTRY's bits whole with seven more, and one short; SDO before and after SEL falls, under one request
byte, over a reply of two bytes, and beyond it. -/
theorem test_witness_BadAndCutRequestsChangeNothing :
    (bay 4 .member).resetHeld = false ∧ (bay 4 .member).straddling = false ∧
    { bay 4 .start with straddling := true }.straddling = true ∧ (bytesOfRequest (.demand 5)).isSome = true ∧
    (bay 4 .member).mode ≠ .dormant ∧ (0 : Byte).toNat = 0 ∧
    11 ≤ (11 : Byte).toNat ∧ bytesOfRequest (.entry 9) = some [2, 9] ∧ (List.replicate 7 true).length < 8 ∧
    15 < ([2, 9].flatMap byteBits).length ∧ State.reset.resetHeld = true ∧ 0 < 1 ∧ 7 < 8 ∧
    { bay 4 .member with reply := [1, 3] }.reply[1]? = some 3 ∧
    { bay 4 .member with reply := [1, 3] }.reply.length ≤ 2 := by decide

/-- A demand at the ceiling 16 (OK) and one above it (CLIPPED). -/
theorem test_witness_DormantTransactionsWake :
    wakeable.resetHeld = false ∧ wakeable.straddling = false ∧ wakeable.mode = .dormant ∧ wakeable.holding = 0 ∧
    (bytesOfRequest .take).isSome = true ∧ (bytesOfRequest .selectRisesEarly).isSome = true ∧
    (bytesOfRequest (.demand 17)).isSome = true ∧ wakeable.ceiling = 16 ∧
    (after (.demand 16) wakeable).reply = [1] ∧ (after (.demand 17) wakeable).reply = [2] := by decide

theorem test_witness_BusWakeNeedsArmedDetector :
    wakeable.resetHeld = false ∧ wakeable.mode = .dormant ∧ wakeable.record.busWake = true ∧
    wakeable.lineLow = none ∧ wakeable.opening = none ∧ wakeable.frame = none ∧ wakeable.wakeArmed = false ∧ 5 ≤ 5 ∧
    { wakeable with wakeArmed := true }.wakeArmed = true ∧ wakeable.holding = 0 ∧ 5 < 60 ∧ 59 < 60 ∧
    (bay 4 .dormant).record.busWake = false := by decide

theorem test_witness_JoinQuietQueuesCensus :
    let s := bay 4 .start
    s.resetHeld = false ∧ s.mode = .start ∧ s.lineLow = none ∧ s.opening = none ∧ s.frame = none ∧
    s.joinCondition = false ∧ 240 ≤ s.highTime + 240 ∧ s.highTime + 239 < 240 ∧
    { s with lineLow := some .unseen }.lineLow.isSome = true ∧
    { s with opening := some ⟨.receiver, none, 0⟩ }.opening.isSome = true := by decide

/-- Each class at its lowest and its highest width; a high of 4 bridged, one of 5 not. -/
theorem test_witness_LowsAreClassedByWidth :
    [4, 5, 14, 15, 24, 25, 59, 60].map classify
      = [none, some .shortMark, some .shortMark, some .longMark, some .longMark, some .symbolError, some .symbolError,
        some .breakLow] ∧
    (⟨20, 4⟩ : Low).width < 5 ∧ 5 ≤ (⟨20, 5⟩ : Low).width ∧ (⟨20, 5⟩ : Low).start + 5 ≤ (⟨29, 3⟩ : Low).start ∧
    (⟨29, 3⟩ : Low).start < 20 + 5 + 5 ∧
    [(⟨20, 5⟩ : Low), ⟨30, 5⟩].Pairwise (fun x y => x.start + x.width + 5 ≤ y.start) ∧
    (bay 4 .start).lineOn = true ∧ (bay 4 .start).frame = none ∧ (bay 4 .start).opening = none ∧
    (bay 4 .start).lineLow = none ∧ { bay 4 .start with lineLow := some .unseen }.lineLow = some .unseen ∧
    { bay 4 .start with frame := some (followed .receiver) }.frame.isSome = true := by decide

/-- S1 with a YIELD ahead of a RENEW, synchronised, with the backoff flag. -/
def yielding : State :=
  { bay 1 .member with
    holding := 9, rampTarget := 9, requested := 12, synchronised := true
    outbox := { Outbox.empty with yield := some fresh, renew := some fresh, backoff := true } }

theorem test_witness_BreakStartServesHighestRank :
    yielding.lineOn = true ∧ yielding.mode ≠ .mute ∧ yielding.sending = false ∧ yielding.synchronised = true ∧
    yielding.outbox.backoff = true ∧ yielding.lineLow = none ∧ yielding.opening = none ∧ yielding.frame = none ∧
    Kind.yield ≠ .claim ∧ yielding.outbox.get .yield = some fresh ∧
    (∀ j : Kind, (yielding.outbox.get j).isSome = true → Kind.yield.rank ≤ j.rank) ∧
    60 + (1 + yielding.address.toNat) * 30 ≤ yielding.highTime + 120 ∧
    yielding.highTime + 119 < 60 + (1 + yielding.address.toNat) * 30 ∧
    { yielding with synchronised := false, frame := some (followed .receiver), highTime := 240 }.synchronised = false ∧
    (bay 1 .member).outbox.waiting = false ∧
    { yielding with frame := some (followed .receiver) }.frame.isSome = true ∧
    { yielding with lineLow := some .unseen }.lineLow.isSome = true :=
  ⟨rfl, by decide, rfl, rfl, rfl, rfl, rfl, rfl, by decide, rfl, fun j => by cases j <;> decide, by decide, by decide,
    rfl, rfl, rfl, rfl⟩

theorem test_witness_ClaimAmountFitsTheBudget :
    beforeA4.lineOn = true ∧ beforeA4.mode ≠ .mute ∧ beforeA4.sending = false ∧ beforeA4.lineLow = none ∧
    beforeA4.opening = none ∧ beforeA4.frame = none ∧ beforeA4.outbox.yield = none ∧ beforeA4.outbox.renew = none ∧
    beforeA4.outbox.claim = some ⟨0, true, false⟩ ∧ beforeA4.contentionWait ≤ beforeA4.highTime + 60 ∧
    (beforeA4.holding : Int)
      < min (beforeA4.target : Int) ((beforeA4.holding : Int) + ((beforeA4.budget : Int) - beforeA4.rosterSum)) ∧
    beforeA4.RosterInv :=
  ⟨rfl, by decide, rfl, rfl, rfl, rfl, rfl, rfl, rfl, by decide, by decide, ⟨by decide, by decide⟩⟩

/-- 2.6: h = 6 and t = 7, and free has fallen to 0; with a notice, without one, and with a CENSUS behind. -/
def outbid (notice : Bool) (census : Option Intent) : State :=
  { bay 4 .member with
    replicas := [peer 1 26 26], holding := 6, rampTarget := 6, requested := 7, target := 7, synchronised := true
    outbox := { Outbox.empty with claim := some ⟨0, notice, false⟩, census := census } }

theorem test_witness_ClaimWithdrawnAtBreakStart :
    [outbid false none, outbid false (some fresh), outbid true none].all (fun s =>
      s.lineOn && s.mode != .mute && !s.sending && s.lineHigh && s.frame.isNone && s.outbox.yield.isNone
        && s.outbox.renew.isNone && s.outbox.claim.isSome && decide (s.contentionWait ≤ s.highTime + 60)
        && decide (min (s.target : Int) ((s.holding : Int) + ((s.budget : Int) - s.rosterSum)) ≤ s.holding)) = true ∧
    (outbid false none).outbox.claim = some ⟨0, false, false⟩ ∧ (outbid false none).outbox.census = none ∧
    (outbid false (some fresh)).outbox.census = some fresh ∧
    (outbid true none).outbox.claim = some ⟨0, true, false⟩ := by
  decide

/-- The four roles' lows; no own frame, an own one at its seventh and at its eighth failure and cancelled, and a break
that stands. -/
theorem test_witness_BreakOpensAndCutsFrames :
    (bay 4 .member).lineOn = true ∧ 60 ≤ 60 ∧ (bay 4 .member).lineLow = none ∧
    [some (.seen true), some (.seen false)].all (fun l => l != some LineLow.unseen) = true ∧
    (bay 4 .member).opening = none ∧ (bay 4 .member).sending = false ∧
    renewing.lineOn = true ∧ renewing.lineLow ≠ some .unseen ∧ renewing.opening = none ∧
    renewing.frame = some (ownFrame ⟨.renew, 4, 0, 0⟩) ∧ (ownFrame ⟨.renew, 4, 0, 0⟩).role = .sender ∧
    renewing.outbox.inFlight = some ⟨.renew, fresh, false⟩ ∧
    { fresh with attempts := 6 }.attempts + 1 < 8 ∧ { fresh with attempts := 7 }.attempts = 7 ∧
    (⟨.renew, fresh, true⟩ : Flight).cancelled = true ∧
    breaking.opening.isSome = true := by decide

theorem test_witness_BreakLimitVoidsOwnFrame :
    let o : Opening := ⟨.sender, some (sealFrame ⟨.renew, 4, 0, 0⟩), 0⟩
    breaking.lineOn = true ∧ breaking.opening = some o ∧ o.role = .sender ∧
    breaking.outbox.inFlight = some ⟨.renew, fresh, false⟩ ∧ 160 ≤ 160 ∧ o.ownTime < 160 ∧ 159 < 160 ∧
    breaking.frame = none ∧ o.ownTime < 80 ∧ 79 < 80 ∧ ¬ 80 < 80 ∧ renewing.opening = none := by decide

theorem test_witness_LowerRankThenHigherAddressWins :
    Kind.yield.rank < Kind.claim.rank ∧ (1 : Address).toNat < (12 : Address).toNat := by decide

/-- S1 against S12 (11.3, A2): the loss at position 3, by a low of 2T that is over at 135; and at the first and the last
place and width. -/
theorem test_witness_LoserBecomesReceiver :
    let raw := acked ⟨.claim, 12, 12, 12⟩
    let sent := sealFrame ⟨.claim, 1, 12, 12⟩
    let early := [⟨25, 20⟩, ⟨55, 10⟩, ⟨85, 20⟩, (⟨110, 15⟩ : Low)]
    let late := [⟨25, 20⟩, ⟨55, 10⟩, ⟨85, 20⟩, (⟨119, 24⟩ : Low)]
    claimingS1.followed = some (ownFrame ⟨.claim, 1, 12, 12⟩) ∧ (ownFrame ⟨.claim, 1, 12, 12⟩).role = .sender ∧
    (ownFrame ⟨.claim, 1, 12, 12⟩).sent = some sent ∧ (ownFrame ⟨.claim, 1, 12, 12⟩).mismatch = none ∧
    inOrder (filterLows raw) ∧ inOrder (filterLows early) ∧ inOrder (filterLows late) ∧ sent.marks[3]? = some .short ∧
    [raw, early, late].all (fun l =>
      (readPositions (filterLows l)).take 3 == (sent.marks.take 3).map PositionRead.mark) = true ∧
    opensPosition (filterLows raw) 3 ⟨115, 20⟩ ∧ opensPosition (filterLows early) 3 ⟨110, 15⟩ ∧
    opensPosition (filterLows late) 3 ⟨119, 24⟩ ∧
    claimingS1.outbox.inFlight = some ⟨.claim, fresh, false⟩ ∧ fresh.attempts < 8 ∧
    135 = max (ownFrame ⟨.claim, 1, 12, 12⟩).elapsed 135 ∧ breakInside 135 (filterLows raw) = none := by
  refine ⟨rfl, rfl, rfl, rfl, ?_, ?_, ?_, by decide, by decide, ⟨by decide, by decide, fun h => nomatch h⟩,
    ⟨by decide, by decide, fun h => nomatch h⟩, ⟨by decide, by decide, fun h => nomatch h⟩, rfl, by decide, by decide,
    by decide⟩ <;> (unfold inOrder; decide)

theorem test_witness_SentFrameIsReadBack :
    (⟨.yield, 15, 255, 255⟩ : FrameFields).holding ≤ 255 ∧ (⟨.yield, 15, 255, 255⟩ : FrameFields).demand ≤ 255 := by
  decide

/-- What every frame's end shares: the record `r` is the one followed, the end is reached, and no break is inside. -/
def reachesEnd (s : State) (r : FrameRecord) (raw : List Low) : Bool :=
  s.followed == some r && max r.elapsed 1010 == 1010 && breakInside 1010 (filterLows raw) == none

/-- S4's CLAIM heard at S1 (A4 of 11.3: it fits exactly), judged now and judged before; a peer not known; the same
values once more; a RENEW that begins overcommit; and a CENSUS. -/
theorem test_witness_HeardFrameWritesOnlyItsSender :
    let raw := acked ⟨.claim, 4, 2, 10⟩
    let s := s1HearsA4
    s.resetHeld = false ∧ s.mode.listening = true ∧ reachesEnd s (followed .receiver) raw = true ∧
    (4 : Address) ≠ s.address ∧ (followed .receiver).verdict = none ∧
    decodeFrame (readPositions (filterLows raw)) = some ⟨.claim, 4, 2, 10⟩ ∧
    s.othersHolding 4 + 2 = s.budget ∧ (followed .receiver).voidSample.getD (voidSeen (filterLows raw)) = false ∧
    reachesEnd { s with frame := some (judged ⟨.claim, 4, 2, 10⟩ .ack) } (judged ⟨.claim, 4, 2, 10⟩ .ack) raw = true ∧
    (judged ⟨.claim, 4, 2, 10⟩ .ack).fields = some ⟨.claim, 4, 2, 10⟩ ∧
    findEntry 4 { s with replicas := [] }.replicas = none ∧
    findEntry 4 { s with replicas := [⟨4, .live, 2, 10, 7⟩] }.replicas = some ⟨4, .live, 2, 10, 7⟩ ∧
    rising s.replicas = true ∧ findEntry s.address s.replicas = none ∧ s.rosterSum ≤ s.budget ∧
    s.budget < State.rosterSum { s with replicas := putEntry ⟨4, .live, 3, 10, 0⟩ s.replicas } ∧
    decodeFrame (readPositions (filterLows (acked ⟨.renew, 4, 3, 10⟩))) = some ⟨.renew, 4, 3, 10⟩ ∧
    decodeFrame (readPositions (filterLows (acked ⟨.census, 4, 0, 0⟩))) = some ⟨.census, 4, 0, 0⟩ ∧
    s.mode = .member ∧ s.holdsOrWants = true := by decide

/-- The judgement point and the bounds of both slots; a CLAIM one unit above the budget; a frame that another voids; a
verdict that stands; and an onlooker in START before its join condition. -/
theorem test_witness_VoidedFrameChangesNoRoster :
    let lows := (sealFrame ⟨.claim, 4, 10, 10⟩).lows true true
    let s := s8HearsV2
    s.lineOn = true ∧ s.mode.listening = true ∧ s.followed = some (followed .receiver) ∧
    [950, 969, 970, 979, 980, 999, 1000, 1009].all (fun now =>
      decide (now = max (followed .receiver).elapsed now) && breakInside now (filterLows lows) == none
        && decide (950 ≤ now) && decide (now < 1010)) = true ∧
    decodeFrame (readPositions (filterLows lows)) = some ⟨.claim, 4, 10, 10⟩ ∧ (4 : Address) ≠ s.address ∧
    s.budget + 1 = s.othersHolding 4 + 10 ∧ decodeFrame (readPositions (filterLows [])) = none ∧
    reachesEnd s (followed .receiver) lows = true ∧
    (followed .receiver).voidSample.getD (voidSeen (filterLows lows)) = true ∧
    (judged ⟨.claim, 4, 9, 10⟩ .voidBudget).verdict = some .voidBudget ∧
    (judged ⟨.claim, 4, 9, 10⟩ .voidBudget).role = .receiver ∧
    reachesEnd { bay 4 .start with frame := some (followed .onlooker) } (followed .onlooker) lows = true ∧
    (bay 4 .start).joinCondition = false ∧ (bay 4 .start).lineOn = true ∧
    rising s.replicas = true ∧ findEntry s.address s.replicas = none := by decide

/-- No low at all is a symbol error at every position: the seventh and the eighth reception error in a row, and a
verdict that stands, in a run of 7 and of 8. -/
theorem test_witness_EighthReceptionErrorMutes :
    let s (n : Nat) := { holder with frame := some (followed .receiver), voidRun := n }
    let v (n : Nat) := { s n with frame := some (judged ⟨.renew, 4, 0, 0⟩ .voidReception) }
    (s 6).resetHeld = false ∧ (s 6).mode.listening = true ∧ reachesEnd (s 6) (followed .receiver) [] = true ∧
    (followed .receiver).role = .receiver ∧ (followed .receiver).verdict = none ∧
    decodeFrame (readPositions (filterLows [])) = none ∧ min 8 ((s 6).voidRun + 1) < 8 ∧ min 8 ((s 7).voidRun + 1) = 8 ∧
    reachesEnd (v 7) (judged ⟨.renew, 4, 0, 0⟩ .voidReception) [] = true ∧ (v 7).voidRun < 8 ∧ (v 8).voidRun = 8 ∧
    (s 7).OutputInv ∧ (s 7).RosterInv :=
  ⟨rfl, rfl, by decide, rfl, rfl, by decide, by decide, by decide, by decide, by decide, rfl, ⟨rfl, by decide⟩,
    ⟨rfl, rfl⟩⟩

theorem test_witness_OwnAddressHeardIsAClash :
    let raw := acked ⟨.renew, 8, 5, 5⟩
    let s := { holder with frame := some (followed .receiver) }
    let v := { holder with frame := some (judged ⟨.renew, 8, 5, 5⟩ .voidClash) }
    s.resetHeld = false ∧ s.mode.listening = true ∧ reachesEnd s (followed .receiver) raw = true ∧
    (followed .receiver).role = .receiver ∧ (followed .receiver).verdict = none ∧
    decodeFrame (readPositions (filterLows raw)) = some ⟨.renew, 8, 5, 5⟩ ∧ (8 : Address) = s.address ∧
    reachesEnd v (judged ⟨.renew, 8, 5, 5⟩ .voidClash) raw = true ∧ s.OutputInv ∧ s.RosterInv :=
  ⟨rfl, rfl, by decide, rfl, rfl, by decide, rfl, by decide, ⟨rfl, by decide⟩, ⟨rfl, rfl⟩⟩

/-- The hypotheses every own frame's end shares, for a frame with the fields `f` and the lows on the line. -/
def ends (s : State) (f : FrameFields) (raw : List Low) : Bool :=
  reachesEnd s (ownFrame f) raw && (ownFrame f).mismatchBy (sealFrame f) 1010 (filterLows raw) == none

/-- Nothing and an ACK in the slots of the lows `raw`, whose samples have not been taken. -/
def ackedClear (f : FrameFields) (raw : List Low) : Bool :=
  !(ownFrame f).voidSample.getD (voidSeen (filterLows raw)) && (ownFrame f).ackSample.getD (ackSeen (filterLows raw))

/-- Position 6 is the last of the header, position 7 the first of the payload. S1's CLAIM against its own address with a
higher holding: a clash at position 10, known at 345. With no low at position 2 a readback error, known at 90, and with a
short low there, known at 95. Times at which marks, lead and slots begin and end. -/
theorem test_witness_OutcomeIsTheFirstLineThatApplies :
    let raw := acked ⟨.claim, 1, 28, 12⟩
    let r := ownFrame ⟨.claim, 1, 12, 12⟩
    let sent := sealFrame ⟨.claim, 1, 12, 12⟩
    let missing := [⟨25, 20⟩, (⟨55, 10⟩ : Low)]
    let short := [⟨25, 20⟩, ⟨55, 10⟩, (⟨85, 10⟩ : Low)]
    PositionRead.symbolError ≠ .mark .short ∧ PositionRead.mark .long ≠ .mark .short ∧
    ([.long, .long, .long, .long, .long, .long] : List Mark).length = 6 ∧
    claimingS1.lineOn = true ∧ claimingS1.followed = some r ∧ r.role = .sender ∧ r.sent = some sent ∧
    sent.marks.length = 31 ∧ sent.marks[6]? = some .long ∧ 20 + 30 * 6 ≤ 219 ∧ 219 < 50 + 30 * 6 ∧
    [0, 19, 20, 220, 229, 230, 949, 950, 980, 999, 1009].all (fun now =>
      breakInside now (filterLows (acked ⟨.claim, 1, 12, 12⟩)) == none
        && r.mismatchBy sent now (filterLows (acked ⟨.claim, 1, 12, 12⟩)) == none) = true ∧
    reachesEnd claimingS1 r raw = true ∧ r.mismatchBy sent 344 (filterLows raw) = none ∧
    r.mismatchBy sent 345 (filterLows raw) = some (.clash, 10) ∧
    r.mismatchBy sent 1010 (filterLows raw) = some (.clash, 10) ∧
    r.mismatch = none ∧ inOrder (filterLows raw) ∧ inOrder (filterLows missing) ∧ inOrder (filterLows short) ∧
    (readPositions (filterLows raw)).take 10 = (sent.marks.take 10).map PositionRead.mark ∧
    sent.marks[10]? = some .short ∧ opensPosition (filterLows raw) 10 ⟨325, 20⟩ ∧
    (readPositions (filterLows missing)).take 2 = (sent.marks.take 2).map PositionRead.mark ∧
    (readPositions (filterLows short)).take 2 = (sent.marks.take 2).map PositionRead.mark ∧
    sent.marks[2]? = some .long ∧ opensPosition (filterLows short) 2 ⟨85, 10⟩ ∧
    (filterLows missing).all (fun l => decide (l.start < 20 + 30 * 2)) = true ∧
    breakInside 95 (filterLows short) = none ∧ breakInside 90 (filterLows missing) = none ∧
    breakInside 345 (filterLows raw) = none ∧
    claimingS1.outbox.inFlight = some ⟨.claim, fresh, false⟩ ∧ claimingS1.mode ≠ .start ∧ claimingS1.mode ≠ .fault ∧
    claimingS1.rampTarget = claimingS1.holding ∧ claimingS1.level ≤ claimingS1.holding ∧
    rising claimingS1.replicas = true ∧ findEntry claimingS1.address claimingS1.replicas = none := by
  simp only [inOrder, opensPosition]
  decide

/-- The same with a low of 2.5T at position 2 that begins last in its window: a readback error, known at 110. -/
theorem test_witness_OutcomeIsTheFirstLineThatApplies_wide_low :
    let lows := filterLows [⟨25, 20⟩, ⟨55, 10⟩, (⟨89, 25⟩ : Low)]
    let r := ownFrame ⟨.claim, 1, 12, 12⟩
    let sent := sealFrame ⟨.claim, 1, 12, 12⟩
    claimingS1.lineOn = true ∧ claimingS1.followed = some r ∧ r.role = .sender ∧ r.sent = some sent ∧
    r.mismatch = none ∧ sent.marks[2]? = some .long ∧ inOrder lows ∧
    (readPositions lows).take 2 = (sent.marks.take 2).map PositionRead.mark ∧ opensPosition lows 2 ⟨89, 25⟩ ∧
    min (89 + 25) (50 + 30 * 2) = 110 ∧ breakInside 110 lows = none ∧ r.mismatchBy sent 109 lows = none ∧
    r.mismatchBy sent 110 lows = some (.readback, 2) := by
  simp only [inOrder, opensPosition]
  decide

/-- A RENEW in MEMBER, and a YIELD in START (R60). -/
theorem test_witness_AcceptedFrameRenewsTheLease :
    let f : FrameFields := ⟨.renew, 4, 0, 0⟩
    let g : FrameFields := ⟨.yield, 4, 0, 0⟩
    ends renewing f (acked f) = true ∧ ackedClear f (acked f) = true ∧
    renewing.outbox.inFlight = some ⟨.renew, fresh, false⟩ ∧ (bay 4 .start).joinCondition = false ∧
    ends { bay 4 .start with frame := some (ownFrame g) } g (acked g) = true ∧ ackedClear g (acked g) = true := by decide

theorem test_witness_AcceptedClaimTakesTheClaimedValue :
    let f : FrameFields := ⟨.claim, 1, 12, 12⟩
    ends claimingS1 f (acked f) = true ∧ ackedClear f (acked f) = true ∧
    claimingS1.outbox.inFlight = some ⟨.claim, fresh, false⟩ ∧ claimingS1.mode = .member ∧
    claimingS1.droopHold = false ∧ claimingS1.holding < 12 ∧ claimingS1.level ≤ claimingS1.holding ∧
    { claimingS1 with droopHold := true }.droopHold = true := by decide

/-- A CENSUS of the own on the line. -/
def censusing (m : Mode) : State :=
  { bay 8 m with
    requested := 6, frame := some (ownFrame ⟨.census, 8, 0, 0⟩)
    outbox := { Outbox.empty with inFlight := some ⟨.census, fresh, false⟩ } }

theorem test_witness_AcceptedCensusEntersLearning :
    let f : FrameFields := ⟨.census, 8, 0, 0⟩
    ends (censusing .isolated) f (acked f) = true ∧ ackedClear f (acked f) = true ∧
    (censusing .isolated).outbox.inFlight = some ⟨.census, fresh, false⟩ ∧ (censusing .isolated).holding = 0 ∧
    (censusing .isolated).resetHeld = false ∧ (censusing .fault).mode ≠ .start ∧
    (censusing .fault).mode ≠ .isolated := by
  decide

/-- No answer in either slot, a VOID, and a readback error (a low of 25 at position 0); six failures before (the seventh
is counted), and a cancelled intent. -/
theorem test_witness_FailedFrameReturnsCounted :
    let f : FrameFields := ⟨.renew, 4, 0, 0⟩
    let lows := (sealFrame f).lows false false
    ends renewing f lows = true ∧ ackSeen (filterLows lows) = false ∧ renewing.record.lone = false ∧
    ends renewing f ((sealFrame f).lows true true) = true ∧ voidSeen (filterLows ((sealFrame f).lows true true)) = true ∧
    reachesEnd renewing (ownFrame f) [⟨25, 25⟩] = true ∧
    (ownFrame f).mismatchBy (sealFrame f) 1010 (filterLows [⟨25, 25⟩]) = some (.readback, 0) ∧
    ({ fresh with attempts := 6 } : Intent).attempts + 1 < 8 ∧
    (⟨.renew, fresh, true⟩ : Flight).cancelled = true ∧ renewing.mode ≠ .start := by
  decide

theorem test_witness_EighthFailureByKind :
    let lows := (sealFrame ⟨.claim, 1, 12, 12⟩).lows false false
    let f : Flight := ⟨.claim, ⟨7, true, false⟩, false⟩
    let s := { claimingS1 with outbox := { Outbox.empty with inFlight := some f } }
    ends s ⟨.claim, 1, 12, 12⟩ lows = true ∧ ackSeen (filterLows lows) = false ∧ s.record.lone = false ∧
    s.outbox.inFlight = some f ∧ f.cancelled = false ∧ f.intent.attempts = 7 ∧ s.mode ≠ .start := by decide

theorem test_witness_WindowCloseEntersMember :
    let s := { bay 4 .learning with windowCap := some 128, renewTimer := .due, requested := 6 }
    s.resetHeld = false ∧ s.mode = .learning ∧ s.windowCap = some 128 ∧ s.lineLow = none ∧ s.opening = none ∧
    s.frame = none ∧ 400 ≤ s.highTime + 400 ∧ s.highTime + 399 < 400 ∧ s.lease / 4 ≤ 128 ∧ 127 < s.lease / 4 ∧
    { s with frame := some (followed .receiver) }.frame.isSome = true ∧
    { s with lineLow := some (.seen true) }.lineLow.isSome = true := by decide

theorem test_witness_LapseKeepsAndRemovalFreesTheHolding :
    let s (st : EntryStatus) (age : Nat) := { bay 4 .member with replicas := [⟨8, st, 6, 6, age⟩] }
    (s .live 512).lineOn = true ∧ (s .live 512).RosterInv ∧
    findEntry 8 (s .live 512).replicas = some ⟨8, .live, 6, 6, 512⟩ ∧ (s .live 512).lease = 512 ∧
    511 < (s .live 511).lease ∧ findEntry 8 (s .lapsed 768).replicas = some ⟨8, .lapsed, 6, 6, 768⟩ ∧
    (s .lapsed 768).lease + (s .lapsed 768).lease / 2 = 768 :=
  ⟨rfl, ⟨rfl, rfl⟩, rfl, rfl, by decide, rfl, rfl⟩

theorem test_witness_SelfLeaseShedsTheLoad :
    let c := Instr.ownFrameOutcome ⟨1010, acked ⟨.claim, 1, 12, 12⟩, .nothing⟩
    let aged := { claimingS1 with ownAge := 512 }
    holder.resetHeld = false ∧ holder.mode = .member ∧ holder.lease = holder.ownAge ∧ holder.OutputInv ∧
    holder.RosterInv ∧ { holder with ownAge := 511 }.ownAge < holder.lease ∧
    exec c aged = .next (after c aged) ∧ aged.mode = .member ∧ aged.lease = aged.ownAge ∧ aged.sending = true ∧
    (after c aged).sending = false ∧ (after c aged).mode = .member ∧ holder.sending = false :=
  ⟨rfl, rfl, rfl, ⟨rfl, by decide⟩, ⟨rfl, rfl⟩, by decide, rfl, rfl, rfl, rfl, by decide, by decide, rfl⟩

theorem test_witness_RenewSuppressionAndRetryTimersExpire :
    holder.resetHeld = false ∧ { holder with renewTimer := .running 128 }.renewTimer = .running 128 ∧
    holder.lease / 4 = 128 ∧ holder.mode = .member ∧ 0 < holder.holding ∧ (bay 4 .start).mode ≠ .member ∧
    127 < holder.lease / 4 ∧ holder.sending = false ∧ claimingS1.sending = true ∧ claimingS1.mode = .member ∧
    0 < claimingS1.advertised ∧ claimingS1.lease / 4 = 128 ∧
    (let c := Instr.ownFrameOutcome ⟨1010, acked ⟨.claim, 1, 12, 12⟩, .nothing⟩
     let due := { claimingS1 with renewTimer := .due }
     (after c due).sending = false ∧ (after c due).mode = .member) ∧
    { holder with suppression := some 128 }.suppression = some 128 ∧
    { bay 8 .isolated with censusRetry := some 512 }.censusRetry = some 512 ∧ (bay 8 .isolated).lease = 512 ∧
    (bay 8 .isolated).mode = .isolated ∧ holder.mode ≠ .start ∧ holder.mode ≠ .isolated := by decide

theorem test_witness_MuteWaitEndsInStart :
    let s (n : Nat) := { bay 4 .mute with muteWait := some n }
    (s 1024).resetHeld = false ∧ (s 1024).mode = .mute ∧ (s 1024).muteWait = some 1024 ∧ (s 1024).holding = 0 ∧
    2 * (s 1024).lease = 1024 ∧ (s 1023).muteWait = some 1023 := by decide

theorem test_witness_RampStepRaisesByOneUnit :
    let s := { holder with level := 5 }
    s.resetHeld = false ∧ s.level < s.rampTarget ∧ holder.rampTarget ≤ holder.level ∧ s.mode ≠ .unconfigured ∧
    s.driveMilliamps = 250 ∧ State.reset.resetHeld = true ∧ (bay 4 .unconfigured).mode = .unconfigured := by decide

/-- Level 3: 4 is within the band, 5 above it; 1 is within it, 0 below it; codes saturate; and the three events that may
be taken first: a self lease, a CLEAR refused outside FAULT and one taken in it, and the mute wait's end. -/
theorem test_witness_SampleIsJudgedAgainstTheLevel :
    let s := { holder with holding := 3, rampTarget := 3, level := 3 }
    let r := { s with overdrawRun := 3 }
    let m := { bay 4 .mute with muteWait := some 1024 }
    (bay 4 .dormant).lineOn = false ∧ s.lineOn = true ∧ 0 < { s with settle := 1 }.settle ∧ s.settle = 0 ∧
    s.level + 1 < min 255 5 ∧ { s with overdrawRun := 2 }.overdrawRun < 3 ∧ r.overdrawRun = 3 ∧
    s.mode ≠ .fault ∧ s.OutputInv ∧ s.RosterInv ∧ (bay 4 .fault).lineOn = true ∧
    (bay 4 .fault).level + 1 < min 255 2 ∧ 3 ≤ s.level ∧ 0 + 2 < s.level ∧ s.level ≤ 255 ∧
    { s with underRun := 14 }.underRun < 15 ∧ { s with underRun := 15 }.underRun = 15 ∧
    { s with underRun := 16 }.underRun = 16 ∧ s.under = false ∧ min 255 4 ≤ s.level + 1 ∧ s.level ≤ min 255 1 + 2 ∧
    exec .selfLease { s with overdrawRun := 0 } = .next (after .selfLease s) ∧ (after .selfLease s).mode = .isolated ∧
    exec .clear s = .next (after .clear s) ∧ (after .clear faulted).mode = .start ∧ faulted.OutputInv ∧
    exec .muteWaitExpiry m = .next (after .muteWaitExpiry m) ∧ (after .muteWaitExpiry m).mode = .start :=
  ⟨rfl, rfl, by decide, rfl, by decide, by decide, rfl, by decide, ⟨rfl, by decide⟩, ⟨rfl, rfl⟩, rfl, by decide,
    by decide, by decide, by decide, by decide, rfl, rfl, rfl, by decide, by decide, rfl, rfl, rfl, rfl,
    ⟨rfl, by decide⟩, rfl, rfl⟩

/-- MEMBER with a holding, with an advertised demand alone, with neither; LEARNING with an advertised demand. -/
theorem test_witness_DroopAssertionDropsTheLoad :
    let l := { bay 4 .learning with requested := 6 }
    holder.droopMonitorOn = true ∧ holder.supplyLow = false ∧ holder.OutputInv ∧ holder.HoldingInv ∧
    0 < holder.holding ∧ { bay 4 .member with requested := 6 }.advertised = 6 ∧ (bay 4 .member).advertised = 0 ∧
    (bay 4 .member).HoldingInv ∧ (bay 4 .member).OutputInv ∧ l.mode = .learning ∧ l.holding = 0 ∧ l.advertised = 6 ∧
    l.outbox.yield = none ∧ (bay 4 .dormant).droopMonitorOn = false :=
  ⟨rfl, rfl, ⟨rfl, by decide⟩, Or.inr ⟨rfl, rfl⟩, by decide, rfl, rfl, Or.inl rfl, ⟨rfl, by decide⟩, rfl, rfl, rfl, rfl,
    rfl⟩

theorem test_witness_RecoveryClearsDroopHold :
    let s (m : Mode) := { bay 4 m with requested := 6, supplyLow := true, droopHold := true, recovery := some 128 }
    (s .member).droopMonitorOn = true ∧ (s .member).supplyLow = true ∧ (bay 4 .member).supplyLow = false ∧
    (s .member).recovery = some 128 ∧ (s .member).droopHold = true ∧ (s .member).holding = 0 ∧
    (s .member).RosterInv ∧ (s .member).lease / 4 = 128 ∧ 0 < (s .member).requested ∧
    (s .fault).droopMonitorOn = true ∧ (s .fault).RosterInv ∧ 127 < (s .fault).lease / 4 :=
  ⟨rfl, rfl, rfl, rfl, rfl, rfl, ⟨rfl, rfl⟩, rfl, by decide, rfl, ⟨rfl, rfl⟩, by decide⟩

/-- Above the target by one, below it with a unit free, and at it. -/
theorem test_witness_BalanceTakesOneOfThreeCourses :
    { holder with requested := 5 }.fairTarget + 1 = holder.holding ∧
    { holder with requested := 7 }.fairTarget = holder.holding + 1 ∧ holder.mode = .member ∧ holder.droopHold = false ∧
    holder.rosterSum < holder.budget ∧ holder.suppression = none ∧ holder.fairTarget = holder.holding := by decide

/-- 2.3 and 11.1: demands that do not fit, and demands that do. -/
theorem test_witness_FairLevelIsTheLargestThatFits :
    let w := [peer 1 0 12, peer 4 0 10, peer 8 0 6, peer 12 0 12]
    w.all (fun e => decide (e.demand ≤ 255)) = true ∧ 32 < (w.map Entry.demand).sum ∧ (w.map Entry.demand).sum ≤ 40 ∧
    fairLevel 32 w = 8 ∧ fairLevel 40 w = 255 ∧ fairLevel 0 w = 0 := by decide

/-- The table of 11.3 at S1, with S4's demand known: the own target is 9, a target with the remainder. -/
def s1Wants : State := { s1HearsA4 with replicas := [peer 4 0 10, peer 8 6 6, peer 12 12 12] }

/-- B′ at 26 and at 0; a remainder of 2, for the two lowest of those that want more than 8. A station whose own address is
listed, and one that wants nothing. -/
theorem test_witness_FairTargetsFitTheReducedBudget :
    let l := [peer 1 9 12, peer 4 9 10, ⟨8, .lapsed, 6, 6, 512⟩, peer 12 8 12]
    l.all (fun e => decide (e.demand ≤ 255)) = true ∧ reducedBudget 32 l = 26 ∧ reducedBudget 6 l = 0 ∧
    rising l = true ∧ fairLevel (reducedBudget 32 l).toNat (wanting l) = 8 ∧
    wanting l = [peer 1 9 12] ++ peer 4 9 10 :: [peer 12 8 12] ∧
    (∀ e ∈ wanting l, e.address ≠ 8) ∧
    rising s1Wants.replicas = true ∧ findEntry s1Wants.address s1Wants.replicas = none ∧ s1Wants.resetHeld = false ∧
    s1Wants.mode ≠ .unconfigured ∧ (1, 9) ∈ fairTargets s1Wants.record.b1.toNat s1Wants.roster ∧ s1Wants.fairTarget = 9 ∧
    (∀ p ∈ fairTargets 32 { s1Wants with requested := 0 }.roster, p.1 ≠ s1Wants.address) := by decide

/-- A station that holds, with a step ahead of it that lowers the holding. -/
def stepping : State := { holder with replicas := [peer 1 9 12], pending := [.demand 5] }

theorem test_witness_OutputStaysWithinHolding :
    stepping.OutputInv ∧ stepping.HoldingInv ∧
    step stepping = .next (after (.demand 5) { stepping with pending := [] }) :=
  ⟨⟨rfl, by decide⟩, Or.inr ⟨rfl, rfl⟩, rfl⟩

theorem test_witness_RosterStaysATable :
    stepping.RosterInv ∧ stepping.VerdictInv ∧
    step stepping = .next (after (.demand 5) { stepping with pending := [] }) :=
  ⟨⟨rfl, rfl⟩, fun _ h => (nomatch h), rfl⟩

theorem test_witness_CausesCountsAndQuantitiesStayLegal :
    stepping.FaultInv ∧ stepping.CountInv ∧ stepping.UnitInv ∧
    step stepping = .next (after (.demand 5) { stepping with pending := [] }) := by
  refine ⟨?_, ?_, ?_, rfl⟩
  · unfold State.FaultInv; decide
  · unfold State.CountInv; decide
  · unfold State.UnitInv
    exact ⟨by decide, by decide, by decide, by decide, by decide, by decide, fun _ h => (nomatch h)⟩

theorem test_witness_OutboxKeepsItsLaw :
    breaking.OutboxInv ∧
    step { breaking with pending := [.breakLimit 160] } = .next (after (.breakLimit 160) breaking) := by
  refine ⟨⟨?_, ?_, ?_, ?_, ?_, rfl, Or.inr rfl⟩, rfl⟩ <;> intro x h <;>
    simp [breaking, Outbox.empty, fresh] at h
  subst h
  decide

theorem test_witness_OnlyAnAcceptedClaimRaisesTheHolding :
    let c := Instr.ownFrameOutcome ⟨1010, acked ⟨.claim, 1, 12, 12⟩, .nothing⟩
    exec c claimingS1 = .next (after c claimingS1) ∧ claimingS1.holding < (after c claimingS1).holding :=
  ⟨rfl, by decide⟩

end Sys2Proof.Tests
end

section
/-! The level L of the fair-share reckoning (R28). Two facts carry it: the search over 0..255 returns the largest
level that fits, and one more unit of level costs one unit for each member whose demand exceeds it. -/

namespace Sys2Proof.Machine

/-! ### The first shares at a level -/

@[simp] theorem firstShares_zero (w : List Entry) : firstShares 0 w = 0 := by simp [firstShares]

@[simp] theorem firstShares_nil (n : Nat) : firstShares n [] = 0 := rfl

@[simp] theorem firstShares_cons (n : Nat) (e : Entry) (w : List Entry) :
    firstShares n (e :: w) = min e.demand n + firstShares n w := by simp [firstShares]

/-- A level at or above every demand gives each member its full demand. -/
theorem firstShares_of_demand_le {n : Nat} {w : List Entry} (h : ∀ e ∈ w, e.demand ≤ n) :
    firstShares n w = (w.map Entry.demand).sum :=
  congrArg List.sum (List.map_congr_left fun e he => min_eq_left (h e he))

/-- One more unit of level goes to each member whose demand exceeds the level, and to no other. -/
theorem firstShares_succ (n : Nat) (w : List Entry) :
    firstShares (n + 1) w = firstShares n w + (w.filter fun e => decide (n < e.demand)).length := by
  induction w with
  | nil => rfl
  | cons e es ih =>
    by_cases he : n < e.demand
    · simp only [firstShares_cons, ih, List.filter_cons, he, decide_true, if_true, List.length_cons]
      omega
    · simp only [firstShares_cons, ih, List.filter_cons, he, decide_false, Bool.false_eq_true, if_false]
      omega

/-! ### The search for the level -/

theorem levelUpTo_le (b : Nat) (w : List Entry) (m : Nat) : levelUpTo b w m ≤ m := by
  induction m with
  | zero => exact Nat.le_refl 0
  | succ m ih =>
    unfold levelUpTo
    split
    · exact Nat.le_refl _
    · exact Nat.le_succ_of_le ih

theorem firstShares_levelUpTo_le (b : Nat) (w : List Entry) (m : Nat) : firstShares (levelUpTo b w m) w ≤ b := by
  induction m with
  | zero => simp [levelUpTo]
  | succ m ih =>
    unfold levelUpTo
    split
    · assumption
    · exact ih

theorem le_levelUpTo {b n m : Nat} {w : List Entry} (hnm : n ≤ m) (hfit : firstShares n w ≤ b) :
    n ≤ levelUpTo b w m := by
  induction m with
  | zero => exact hnm
  | succ m ih =>
    unfold levelUpTo
    split
    · exact hnm
    · next hover =>
      have hne : n ≠ m + 1 := fun h => hover (h ▸ hfit)
      exact ih (by omega)

theorem fairLevel_le (b : Nat) (w : List Entry) : fairLevel b w ≤ 255 := levelUpTo_le b w 255

theorem firstShares_fairLevel_le (b : Nat) (w : List Entry) : firstShares (fairLevel b w) w ≤ b :=
  firstShares_levelUpTo_le b w 255

theorem le_fairLevel {b n : Nat} {w : List Entry} (hn : n ≤ 255) (hfit : firstShares n w ≤ b) :
    n ≤ fairLevel b w := le_levelUpTo hn hfit

/-! ### The two courses of R28: the demands fit, or they do not -/

theorem fairLevel_of_total_le {b : Nat} {w : List Entry} (hw : ∀ e ∈ w, e.demand ≤ 255)
    (hfit : (w.map Entry.demand).sum ≤ b) : fairLevel b w = 255 :=
  Nat.le_antisymm (fairLevel_le b w)
    (le_fairLevel (Nat.le_refl 255) ((firstShares_of_demand_le hw).trans_le hfit))

theorem fairLevel_lt_of_lt_total {b : Nat} {w : List Entry} (hw : ∀ e ∈ w, e.demand ≤ 255)
    (hover : b < (w.map Entry.demand).sum) : fairLevel b w < 255 := by
  have hne : fairLevel b w ≠ 255 := by
    intro h
    have hfit := firstShares_fairLevel_le b w
    rw [h, firstShares_of_demand_le hw] at hfit
    exact absurd hfit (Nat.not_le.mpr hover)
  exact lt_of_le_of_ne (fairLevel_le b w) hne

/-- Below 255 the next level is within the search, so by maximality it overruns. -/
theorem lt_firstShares_fairLevel_succ {b : Nat} {w : List Entry} (h : fairLevel b w < 255) :
    b < firstShares (fairLevel b w + 1) w :=
  Nat.not_le.mp fun hfit => absurd (le_fairLevel h hfit) (Nat.not_succ_le_self _)

/-- Settles O53 (R28): the bound, the fit and the maximality are the search's; when the demands do not fit, the level
is below 255, and what the next one adds is one unit for each member whose demand exceeds it. -/
theorem fairLevelIsTheLargestThatFits : Obligations.FairLevelIsTheLargestThatFits := by
  intro b w hw
  refine ⟨fairLevel_le b w, firstShares_fairLevel_le b w, fun n => le_fairLevel, firstShares_zero w, ?fits, ?overruns⟩
  case fits => exact fun hfit => ⟨firstShares_of_demand_le hw, fairLevel_of_total_le hw hfit⟩
  case overruns =>
    intro hover
    calc b < firstShares (fairLevel b w + 1) w :=
          lt_firstShares_fairLevel_succ (fairLevel_lt_of_lt_total hw hover)
      _ = _ := firstShares_succ (fairLevel b w) w

end Sys2Proof.Machine
end

section
/-! The local port's reads and the event latch: ENTRY, OPTIONS and TAKE (R164, R165, R171). A request that is taken
answers at once, and the wake from DORMANT behind it (R135) keeps the reply. -/

namespace Sys2Proof.Machine

/-! ### What a transaction that is taken leaves -/

/-- What the wake behind a request in DORMANT does not touch is as the request's effect left it (R135). -/
theorem transaction_field {α : Type} (f : State → α) {s : State} (hr : s.resetHeld = false)
    (hs : s.straddling = false) (effect : State → State)
    (hwake : s.mode = .dormant → f (wakeStation (effect s)) = f (effect s)) :
    f (transaction effect s) = f (effect s) := by
  by_cases hm : s.mode = .dormant
  · simpa [transaction, hr, hs, hm] using hwake hm
  · rw [transaction_awake hr hs hm]

theorem transaction_reply {s : State} (hr : s.resetHeld = false) (hs : s.straddling = false)
    (effect : State → State) : (transaction effect s).reply = (effect s).reply :=
  transaction_field State.reply hr hs effect fun _ => wakeStation_reply _

/-- Entry to START of a station that holds nothing latches nothing (R124). -/
theorem enterStart_latch {s : State} (h : s.holding = 0) : (enterStart s).latch = s.latch := by
  rw [enterStart_eq h]

theorem wakeStation_latch {s : State} (h : s.holding = 0) : (wakeStation s).latch = s.latch := by
  unfold wakeStation
  exact enterStart_latch h

theorem holding_of_dormant {s : State} (h : s.HoldingInv) (hm : s.mode = .dormant) : s.holding = 0 := by
  rcases h with h | ⟨h, -⟩
  · exact h
  · cases hm.symm.trans h

/-! ### ENTRY: the entry found in the roster -/

theorem entryRequest_refused {a : Byte} (h : 16 ≤ a.toNat) (s : State) :
    entryRequest a s = answer .refused [] s := if_neg (Nat.not_lt.mpr h)

theorem entryRequest_answered {a : Byte} (h : a.toNat < 16) (s : State) :
    entryRequest a s = answer .ok (s.entryData (a.setWidth 4)) s := by
  rw [entryRequest, if_pos h, BitVec.ofNat_toNat]

/-- ENTRY writes the reply alone, answered or refused (R161). -/
theorem entryRequest_frame (a : Byte) (s : State) :
    entryRequest a s = { s with reply := (entryRequest a s).reply } := by
  unfold entryRequest; split <;> rfl

theorem entryData_absent {s : State} {a : Address} (h : findEntry a s.roster = none) :
    s.entryData a = [0, 0, 0, 0, 0, 0] := by
  simp [State.entryData, h]

theorem EntryStatus.code_eq (st : EntryStatus) : st.code = if st = .live then 1 else 2 := by cases st <;> rfl

theorem entryData_present {s : State} {a : Address} {e : Entry} (h : findEntry a s.roster = some e) :
    s.entryData a = [1, dataByte (if e.status = .live then 1 else 2), dataByte e.holding, dataByte e.demand,
      dataByte (e.age / 256), dataByte e.age] := by
  simp [State.entryData, h, EntryStatus.code_eq, dataWord]

/-- The own entry stands in the roster in every state but UNCONFIGURED (R4, R19). -/
theorem findEntry_roster_own {s : State} (hr : s.resetHeld = false) (hm : s.mode ≠ .unconfigured) :
    findEntry s.address s.roster = some s.ownEntry := by
  have hown : s.hasOwnEntry = true := by simp [State.hasOwnEntry, hr, hm]
  rw [State.roster, if_pos hown]
  exact findEntry_putEntry_self s.ownEntry s.replicas

/-- Settles O10 (R164): the reply is the request's own, whether or not the station wakes behind it, and the own address
is a case of an entry that is present. -/
theorem entryReportsOneRosterEntry : Obligations.EntryReportsOneRosterEntry := by
  intro a s hr hs
  have hreply : (transaction (entryRequest a) s).reply = (entryRequest a s).reply := transaction_reply hr hs _
  have hpresent : a.toNat < 16 → ∀ e, findEntry (a.setWidth 4) s.roster = some e →
      (transaction (entryRequest a) s).reply = [1, 1, dataByte (if e.status = .live then 1 else 2),
        dataByte e.holding, dataByte e.demand, dataByte (e.age / 256), dataByte e.age] := by
    intro ha e he
    rw [hreply, entryRequest_answered ha, answer_reply, entryData_present he]
    rfl
  refine ⟨transaction (entryRequest a) s, rfl, ?frame, ?refused, hpresent, ?absent, ?own⟩
  case frame =>
    intro hm
    rw [transaction_awake hr hs hm]
    exact entryRequest_frame a s
  case refused =>
    intro ha
    have hthree : (transaction (entryRequest a) s).reply = [3] := by
      rw [hreply, entryRequest_refused ha]; rfl
    exact ⟨hthree, fun n => by simp [State.replyByte, hthree]⟩
  case absent =>
    intro ha hnone
    rw [hreply, entryRequest_answered ha, answer_reply, entryData_absent hnone]
    rfl
  case own =>
    intro ha haddr hm
    exact hpresent ha s.ownEntry (haddr ▸ findEntry_roster_own hr hm)

/-! ### OPTIONS: the record as read -/

/-- Settles O11 (R165): the wake behind a request in DORMANT keeps the reply, the record and its cause. -/
theorem optionsReportsRecordAsRead : Obligations.OptionsReportsRecordAsRead := by
  intro s hr hs
  refine ⟨transaction (fun s => answer .ok s.optionsData s) s, rfl, ?reply, ?record, ?cause, ?frame⟩
  case reply =>
    rw [transaction_reply hr hs, answer_reply]
    cases hc : s.cause <;> simp [State.optionsData, Record.bytes, PortStatus.byte, Cause.code, dataByte, hc]
  case record => exact transaction_field State.record hr hs _ fun _ => wakeStation_record _
  case cause => exact transaction_field State.cause hr hs _ fun _ => wakeStation_cause _
  case frame =>
    intro hm
    rw [transaction_awake hr hs hm]
    rfl

/-! ### The order of the event kinds -/

theorem EventKind.mem_all (k : EventKind) : k ∈ EventKind.all := by cases k <;> decide

/-- The kinds stand from the highest priority to the lowest: their codes rise (R170, R179). -/
theorem EventKind.all_rising : EventKind.all.Pairwise fun j k => j.code < k.code := by decide

theorem EventKind.dataByte_code_ne_zero (k : EventKind) : dataByte k.code ≠ 0 := by cases k <;> decide

theorem EventKind.dataByte_code_inj {j k : EventKind} (h : dataByte j.code = dataByte k.code) : j = k := by
  have hj := j.bit_lt
  have hk := k.bit_lt
  have hnat := congrArg BitVec.toNat h
  simp only [dataByte, BitVec.toNat_ofNat, EventKind.code] at hnat
  exact EventKind.bit_inj.mp (by omega)

/-- Among kinds in rising order, a search finds the one with the lowest code that passes. -/
theorem find?_of_lowest {p : EventKind → Bool} {k : EventKind} (hp : p k = true) {l : List EventKind}
    (hl : l.Pairwise fun i j => i.code < j.code) (hk : k ∈ l) (hlow : ∀ j, p j = true → k.code ≤ j.code) :
    l.find? p = some k := by
  induction l with
  | nil => cases hk
  | cons x xs ih =>
    obtain ⟨hx, hxs⟩ := List.pairwise_cons.mp hl
    rcases List.mem_cons.mp hk with rfl | hk
    · exact List.find?_cons_of_pos hp
    · have hfail : ¬ p x = true := fun hpx => absurd (hlow x hpx) (Nat.not_le.mpr (hx k hk))
      rw [List.find?_cons_of_neg hfail]
      exact ih hxs hk

/-! ### TAKE: the kind handed over, and the latch without it -/

theorem nextEvent_of_lowest {s : State} {k : EventKind} (hl : s.latched k = true) (hm : s.masked k = false)
    (hlow : ∀ j : EventKind, s.latched j = true → s.masked j = false → k.code ≤ j.code) :
    s.nextEvent = some k :=
  find?_of_lowest (by simp [hl, hm]) EventKind.all_rising k.mem_all fun j hj => by
    obtain ⟨hjl, hjm⟩ : s.latched j = true ∧ s.masked j = false := by simpa using hj
    exact hlow j hjl hjm

theorem nextEvent_of_none_unmasked {s : State} (h : ∀ k : EventKind, s.latched k = true → s.masked k = true) :
    s.nextEvent = none :=
  List.find?_eq_none.mpr fun k _ hk => by
    obtain ⟨hl, hm⟩ : s.latched k = true ∧ s.masked k = false := by simpa using hk
    simp [h k hl] at hm

theorem unmasked_of_nextEvent {s : State} {k : EventKind} (h : s.nextEvent = some k) : s.masked k = false := by
  have hp := List.find?_some h
  simp only [Bool.and_eq_true, Bool.not_eq_true'] at hp
  exact hp.2

theorem takeRequest_some {s : State} {k : EventKind} (h : s.nextEvent = some k) :
    takeRequest s = answer .ok [dataByte k.code] { s with latch := s.latch &&& ~~~k.word } := by
  simp [takeRequest, h]

theorem takeRequest_none {s : State} (h : s.nextEvent = none) : takeRequest s = answer .ok [0] s := by
  simp [takeRequest, h]

/-- TAKE writes the reply and the latch alone (R171). -/
theorem takeRequest_frame (s : State) :
    takeRequest s = { s with reply := (takeRequest s).reply, latch := (takeRequest s).latch } := by
  unfold takeRequest; split <;> rfl

/-- Exactly the kind handed over leaves the latch (R171). -/
theorem latched_takeRequest_some {s : State} {k : EventKind} (h : s.nextEvent = some k) (j : EventKind) :
    (takeRequest s).latched j = (s.latched j && decide (j ≠ k)) := by
  have hj := j.bit_lt
  have hbit : k.word.getLsbD j.bit = decide (j = k) := by
    simp [EventKind.word, hj, EventKind.bit_inj, eq_comm]
  rw [takeRequest_some h]
  simp only [State.latched, answer_latch, BitVec.getLsbD_and, BitVec.getLsbD_not, hbit]
  simp [hj]

/-- A masked kind stays as it was (R171, R172). -/
theorem latched_takeRequest_of_masked {s : State} {k : EventKind} (hm : s.masked k = true) :
    (takeRequest s).latched k = s.latched k := by
  cases hnext : s.nextEvent with
  | none => rw [takeRequest_none hnext]; rfl
  | some j =>
    have hne : k ≠ j := by
      rintro rfl
      simp [unmasked_of_nextEvent hnext] at hm
    simp [latched_takeRequest_some hnext, hne]

/-- A masked kind is not named: neither NONE nor the unmasked kind handed over has its code (R171, R172). -/
theorem takeRequest_reply_ne_of_masked {s : State} {k : EventKind} (hm : s.masked k = true) :
    (takeRequest s).reply ≠ [1, dataByte k.code] := by
  intro hreply
  cases hnext : s.nextEvent with
  | none =>
    rw [takeRequest_none hnext] at hreply
    simp only [answer_reply, List.cons.injEq] at hreply
    exact k.dataByte_code_ne_zero hreply.2.1.symm
  | some j =>
    rw [takeRequest_some hnext] at hreply
    simp only [answer_reply, List.cons.injEq] at hreply
    have hjk : j = k := EventKind.dataByte_code_inj hreply.2.1
    simp [← hjk, unmasked_of_nextEvent hnext] at hm

/-- A kind that is latched already merges: latching it again changes nothing (R170). -/
theorem latchEvent_of_latched {s : State} {k : EventKind} (h : s.latched k = true) : latchEvent k s = s := by
  have hlatch : s.latch ||| k.word = s.latch := by
    apply BitVec.eq_of_getLsbD_eq
    intro i hi
    by_cases hik : k.bit = i
    · subst hik
      have hset : s.latch.getLsbD k.bit = true := h
      simp [hset]
    · simp [EventKind.word, BitVec.getLsbD_twoPow, hik]
  simp [latchEvent, hlatch]

/-- A TAKE leaves the latch that its effect leaves: a DORMANT station holds nothing, so its wake latches no OUTPUT
(R7, R135). -/
theorem transaction_takeRequest_latch {s : State} (hr : s.resetHeld = false) (hs : s.straddling = false)
    (hinv : s.HoldingInv) : (transaction takeRequest s).latch = (takeRequest s).latch :=
  transaction_field State.latch hr hs takeRequest fun hm => wakeStation_latch (by
    rw [takeRequest_frame]
    exact holding_of_dormant hinv hm)

/-- Settles O12 (R171): what TAKE does is told by the kind `nextEvent` finds; to latch that kind once more just before
changes nothing, and just after brings it back. -/
theorem takeHandsOverHighestPriority : Obligations.TakeHandsOverHighestPriority := by
  intro s hr hs hinv
  have hreply : (transaction takeRequest s).reply = (takeRequest s).reply := transaction_reply hr hs _
  have hlatch : (transaction takeRequest s).latch = (takeRequest s).latch := transaction_takeRequest_latch hr hs hinv
  refine ⟨transaction takeRequest s, rfl, ?named, ?none, ?masked, ?frame⟩
  case named =>
    intro k hl hm hlow
    have hnext : s.nextEvent = some k := nextEvent_of_lowest hl hm hlow
    have hafter : ∀ j : EventKind, (transaction takeRequest s).latched j = (s.latched j && decide (j ≠ k)) :=
      fun j => (latched_congr hlatch j).trans (latched_takeRequest_some hnext j)
    refine ⟨?_, hafter, ?_, transaction takeRequest s, ?_, rfl, ?_⟩
    · rw [hreply, takeRequest_some hnext]; rfl
    · simp [latched_latchEvent]
    · rw [latchEvent_of_latched hl]; rfl
    · simp [hafter]
  case none =>
    intro h
    rw [hreply, hlatch, takeRequest_none (nextEvent_of_none_unmasked h)]
    exact ⟨rfl, rfl⟩
  case masked =>
    intro k hm
    exact ⟨(latched_congr hlatch k).trans (latched_takeRequest_of_masked hm),
      hreply ▸ takeRequest_reply_ne_of_masked hm⟩
  case frame =>
    intro hm
    rw [transaction_awake hr hs hm]
    exact takeRequest_frame s

end Sys2Proof.Machine
end

section
/-! What a condition on the station must survive to be kept by every command. A command is made of a few effects (an
entry to a state, a frame's progress, an outcome, a request at the port); `Kept` lists them, each under the
circumstances in which a command brings it, and `Kept.exec` composes them once for all 39 commands. -/

namespace Sys2Proof.Machine

/-- Every effect that a command other than RESET, READ_EVENT and PROGRAM_WRITE_COMPLETE is made of keeps `P`, the end of
an own frame aside. -/
structure KeptUntilEnd (P : State → Prop) : Prop where
  port {s : State} (reply : List Byte) (mask latch : BitVec 10) (straddling : Bool) (writing : Option Record)
    (written : Bool) : s.resetHeld = false → P s →
    P { s with
      reply := reply, mask := mask, latch := latch, straddling := straddling, writing := writing, written := written }
  timers {s : State} (renewTimer : RenewTimer) (censusRetry recovery : Option Nat) (supplyLow : Bool) :
    s.resetHeld = false → P s →
    P { s with renewTimer := renewTimer, censusRetry := censusRetry, recovery := recovery, supplyLow := supplyLow }
  line {s : State} (highTime : Nat) (lineLow : Option LineLow) (wakeArmed joinCondition : Bool) :
    s.mode ≠ .unconfigured → P s →
    P { s with highTime := highTime, lineLow := lineLow, wakeArmed := wakeArmed, joinCondition := joinCondition }
  queue {s : State} (k : Kind) : s.mode ≠ .unconfigured → P s → P (queueIntent k s)
  demand {s : State} {r : Nat} : s.mode ≠ .unconfigured → r ≤ s.ceiling → P s → P (setRequested r s)
  wake {s : State} : s.mode = .dormant → P s → P (wakeStation s)
  start {s : State} : s.mode = .fault ∨ s.mode = .mute → P s → P (enterStart s)
  sleep {s : State} : s.maySleep = true → P s → P (enterDormant s)
  isolate {s : State} (relearn : Bool) : s.mode = .member ∨ s.mode = .isolated → P s → P (enterIsolated relearn s)
  fault {s : State} {cause : FaultCause} : s.mode.running = true → cause ≠ .none → P s → P (enterFault cause s)
  mute {s : State} : s.mode.listening = true → P s → P (enterMute s)
  member {s : State} : s.mode = .learning → P s → P (enterMember s)
  serve {s : State} : s.mode ≠ .unconfigured → s.sending = false → s.opening = none → P s → P (serveOutbox s)
  ownBreak {s : State} {o : Opening} (n : Nat) : s.opening = some o → P s →
    P { s with opening := some { o with ownTime := n } }
  cut {s : State} : s.mode.running = true ∨ s.followed.isSome = true → P s →
    P (followBreak (if s.sending then takeOutcome .voided s else s))
  lose {s : State} {r : FrameRecord} {sent : SentFrame} (k : Nat) (lows : List Low) : s.followed = some r →
    r.role = .sender → P s → P (loseArbitration r sent k lows s)
  follow {s : State} {r : FrameRecord} (now : Nat) (lows : List Low) : s.followed = some r → r.role ≠ .sender →
    P s → P (followTo r now lows s)
  send {s : State} {r r' : FrameRecord} (now : Nat) (lows : List Low) : s.followed = some r → r.role = .sender →
    r'.role = .sender → r'.sent = r.sent → P s → P (frameReaches r' now lows s)
  known {s : State} {r : FrameRecord} : s.opening = none → s.frame = some r → r.role ≠ .sender → P s →
    P (knownFrameEnd { s with frame := none })
  apply {s : State} {r : FrameRecord} {f : FrameFields} : s.mode.listening = true → s.opening = none →
    s.frame = some r → r.role = .receiver → r.verdict = some .ack → r.fields = some f → P s →
    P (applyFrame f (knownFrameEnd { s with frame := none }))
  lapse {s : State} (a : Address) : s.lapseDue a = true → P s → P (lapseEntry a s)
  remove {s : State} (a : Address) : s.removalDue a = true → P s → P (removeEntry a s)
  lift {s : State} : s.resetHeld = false → P s → P (recompute (liftSuppression s))
  ramp {s : State} : s.rampDue = true → P s → P (setLevel (s.level + 1) s)
  settle {s : State} : s.samplerOn = true → P s → P { s with settle := s.settle - 1 }
  under {s : State} (code : Nat) : s.samplerOn = true → P s → P (judgeUnder code s)
  overdraw {s : State} {n : Nat} : s.samplerOn = true → n < 4 → P s → P { s with overdrawRun := n }
  droop {s : State} : s.droopMonitorOn = true → P s → P (assertDroop s)
  recover {s : State} : s.droopMonitorOn = true → P s → P (clearDroopHold s)

/-- Every effect that a command other than those three is made of keeps `P`. -/
structure Kept (P : State → Prop) : Prop extends KeptUntilEnd P where
  conclude {s : State} {r : FrameRecord} {sent : SentFrame} (out : FrameOutcome) : s.opening = none →
    s.frame = some r → r.role = .sender → r.sent = some sent → P s → P (endOwnFrame sent out s)

/-! ### The circumstances -/

theorem Mode.running_of_listening {m : Mode} (h : m.listening = true) : m.running = true := by
  cases m <;> simp_all [Mode.listening, Mode.running]

@[simp] theorem Mode.running_start : Mode.running .start = true := rfl
@[simp] theorem Mode.running_isolated : Mode.running .isolated = true := rfl

theorem Mode.ne_unconfigured_of_running {m : Mode} (h : m.running = true) : m ≠ .unconfigured := by
  rintro rfl; cases h

theorem lineOn_iff {s : State} : s.lineOn = true ↔ s.resetHeld = false ∧ s.mode.running = true := by
  simp [State.lineOn]

theorem samplerOn_iff {s : State} : s.samplerOn = true ↔ s.resetHeld = false ∧ s.mode.running = true := by
  simp [State.samplerOn]

theorem droopMonitorOn_iff {s : State} :
    s.droopMonitorOn = true ↔ s.resetHeld = false ∧ s.mode.running = true ∧ s.record.droopEnable = true := by
  simp [State.droopMonitorOn, and_assoc]

theorem wakeDetectorOn_iff {s : State} :
    s.wakeDetectorOn = true ↔ s.resetHeld = false ∧ s.mode = .dormant ∧ s.record.busWake = true := by
  simp [State.wakeDetectorOn, and_assoc]

theorem mode_ne_of_lineOn {s : State} (h : s.lineOn = true) : s.mode ≠ .unconfigured :=
  Mode.ne_unconfigured_of_running (lineOn_iff.1 h).2

theorem renewDue_resetHeld {s : State} (h : s.renewDue = true) : s.resetHeld = false := by
  unfold State.renewDue at h
  split at h
  · simp only [Bool.and_eq_true, Bool.not_eq_true'] at h; exact h.1
  · cases h

theorem selfLeaseDue_mode {s : State} (h : s.selfLeaseDue = true) : s.mode = .member := by
  simp only [State.selfLeaseDue, Bool.and_eq_true, decide_eq_true_eq] at h; exact h.1.2

/-- A new requested demand writes nothing but itself, what the allocator writes and the outbox (R26, R166). -/
theorem setRequested_writes (r : Nat) (s : State) :
    setRequested r s = { s with
      requested := (setRequested r s).requested, target := (setRequested r s).target
      holding := (setRequested r s).holding, rampTarget := (setRequested r s).rampTarget
      level := (setRequested r s).level, settle := (setRequested r s).settle
      overdrawRun := (setRequested r s).overdrawRun, underRun := (setRequested r s).underRun
      under := (setRequested r s).under, latch := (setRequested r s).latch
      suppression := (setRequested r s).suppression, outbox := (setRequested r s).outbox } := by
  unfold setRequested
  split
  · rfl
  · apply State.ext <;> simp

@[simp] theorem setRequested_mode (r : Nat) (s : State) : (setRequested r s).mode = s.mode := by
  rw [setRequested_writes]

@[simp] theorem setRequested_resetHeld (r : Nat) (s : State) : (setRequested r s).resetHeld = s.resetHeld := by
  rw [setRequested_writes]

/-- A droop assertion writes nothing but the droop monitor's own, what the allocator writes and the outbox (R143). -/
theorem assertDroop_writes (s : State) :
    assertDroop s = { s with
      supplyLow := true, droopHold := true, recovery := none, target := (assertDroop s).target
      holding := (assertDroop s).holding, rampTarget := (assertDroop s).rampTarget, level := (assertDroop s).level
      settle := (assertDroop s).settle, overdrawRun := (assertDroop s).overdrawRun
      underRun := (assertDroop s).underRun, under := (assertDroop s).under, latch := (assertDroop s).latch
      suppression := (assertDroop s).suppression, outbox := (assertDroop s).outbox } := by
  unfold assertDroop
  dsimp only
  split <;> (apply State.ext <;> simp)

/-- Neither does the end of droop hold (R144). -/
theorem clearDroopHold_writes (s : State) :
    clearDroopHold s = { s with
      droopHold := false, recovery := none, target := (clearDroopHold s).target
      holding := (clearDroopHold s).holding, rampTarget := (clearDroopHold s).rampTarget
      level := (clearDroopHold s).level, settle := (clearDroopHold s).settle
      overdrawRun := (clearDroopHold s).overdrawRun, underRun := (clearDroopHold s).underRun
      under := (clearDroopHold s).under, latch := (clearDroopHold s).latch
      suppression := (clearDroopHold s).suppression, outbox := (clearDroopHold s).outbox } := by
  unfold clearDroopHold
  apply State.ext <;> simp

theorem capDue_mode {s : State} (h : s.capDue = true) : s.mode = .learning := by
  simp only [State.capDue, Bool.and_eq_true, decide_eq_true_eq] at h; exact h.1.2

theorem muteWaitDue_mode {s : State} (h : s.muteWaitDue = true) : s.mode = .mute := by
  simp only [State.muteWaitDue, Bool.and_eq_true, decide_eq_true_eq] at h; exact h.1.2

/-- A judgement for under-current changes the under run, UNDER and the latch alone (R141). -/
theorem judgeUnder_writes (code : Nat) (s : State) :
    judgeUnder code s = { s with
      underRun := (judgeUnder code s).underRun, under := (judgeUnder code s).under
      latch := (judgeUnder code s).latch } := by
  unfold judgeUnder
  dsimp only
  split
  · rfl
  · split
    · split <;> rfl
    · rfl

@[simp] theorem judgeUnder_resetHeld (code : Nat) (s : State) : (judgeUnder code s).resetHeld = s.resetHeld := by
  rw [judgeUnder_writes]

@[simp] theorem judgeUnder_mode (code : Nat) (s : State) : (judgeUnder code s).mode = s.mode := by
  rw [judgeUnder_writes]

/-- The event taken between an overdraw and its report leaves the station in a running state: a CLEAR and the end of the
mute wait enter START, a self lease ISOLATED (R112, R154, R159). -/
theorem takeBetween_running {between : Between} {s : State} (h : s.mode.running = true) :
    (takeBetween between s).mode.running = true := by
  cases between with
  | nothing => exact h
  | selfLease => simp only [takeBetween, takeSelfLease]; split <;> simp [h]
  | clear =>
    rcases transaction_cases clearRequest s with ⟨-, e⟩ | ⟨-, -, e⟩ | ⟨-, -, -, e⟩ | ⟨-, -, -, e⟩ <;>
      simp only [takeBetween, e]
    · exact h
    · exact h
    · simp
    · unfold clearRequest; split <;> simp [h]
  | muteWait => simp only [takeBetween, endMuteWait]; split <;> simp [h]

/-! ### RESET, the read event and the completed write -/

/-- While RESET is held the station is at the state of reset, but for the memory, the counter and the queue (R118). -/
theorem holdReset_eq (s : State) :
    holdReset s = { State.reset with
      oneTime := (holdReset s).oneTime, fresh := (holdReset s).fresh, pending := s.pending } := by
  unfold holdReset
  split <;> rfl

theorem completeWrite_eq (s : State) :
    completeWrite s = { s with oneTime := (completeWrite s).oneTime, writing := (completeWrite s).writing } := by
  unfold completeWrite
  split <;> rfl

/-- The station that a read event finds, before it enters START or stays UNCONFIGURED (R118). -/
def readState (pins : ReadPins) (s : State) : State :=
  { State.reset with
    resetHeld := false, oneTime := s.oneTime, address := pins.straps, record := s.oneTime, cause := s.oneTime.judge
    latch := EventKind.restarted.word, straddling := pins.selectLow, fresh := s.fresh, pending := s.pending }

theorem releaseReset_cases (pins : ReadPins) (s : State) :
    (s.oneTime.judge = .ok ∧ releaseReset pins s =
      enterStart { readState pins s with lineLow := if pins.shareLow then some .unseen else none }) ∨
    (s.oneTime.judge ≠ .ok ∧ releaseReset pins s = readState pins s) := by
  by_cases h : s.oneTime.judge = .ok
  · exact .inl ⟨h, if_pos h⟩
  · exact .inr ⟨h, if_neg h⟩

/-- A sender's frame is the opening or the record on the line. -/
theorem sending_of_followed {s : State} {r : FrameRecord} (hr : s.followed = some r) (hs : r.role = .sender) :
    s.sending = true := by
  cases ho : s.opening with
  | none =>
    have hf : s.frame = some r := by simpa [State.followed, ho] using hr
    simp [State.sending, hf, hs]
  | some o =>
    have hro : o.record = r := by simpa [State.followed, ho] using hr
    have : o.role = .sender := by rw [← hs, ← hro]; rfl
    simp [State.sending, ho, this]

/-- A sender that has come to `now` has a record in flight, and while it is the sender still, with the fields it
sent (R72, R77). -/
theorem sendTo_frame (r : FrameRecord) (sent : SentFrame) (now : Nat) (lows : List Low) (s : State) :
    ∃ r', (sendTo r sent now lows s).frame = some r' ∧ (sendTo r sent now lows s).opening = none ∧
      (r'.role = .sender → r'.sent = r.sent) := by
  unfold sendTo
  split
  · refine ⟨_, frameReaches_frame _ _ _ _, rfl, fun hs => ?_⟩
    dsimp only at hs
    split at hs <;> cases hs
  · exact ⟨_, frameReaches_frame _ _ _ _, rfl, fun _ => rfl⟩

namespace KeptUntilEnd

variable {P : State → Prop} (h : KeptUntilEnd P)
include h

/-! ### Requests at the local port -/

theorem answer {s : State} (st : PortStatus) (data : List Byte) (hr : s.resetHeld = false) (hp : P s) :
    P (answer st data s) := h.port (st.byte :: data) s.mask s.latch s.straddling s.writing s.written hr hp

/-- A transaction keeps what its effect keeps, the wake behind it included (R135). -/
theorem transaction {effect : State → State} {s : State}
    (he : s.resetHeld = false → P (effect s))
    (hm : s.mode = .dormant → (effect s).mode = .dormant) (hp : P s) : P (transaction effect s) := by
  rcases transaction_cases effect s with ⟨-, e⟩ | ⟨hr, -, e⟩ | ⟨hr, -, hd, e⟩ | ⟨hr, -, -, e⟩ <;> rw [e]
  · exact hp
  · exact h.port s.reply s.mask s.latch false s.writing s.written hr hp
  · exact h.wake (hm hd) (he hr)
  · exact he hr

theorem demandRequest {s : State} (d : Byte) (hr : s.resetHeld = false) (hp : P s) : P (demandRequest d s) := by
  unfold Machine.demandRequest
  split
  · exact h.answer _ _ hr hp
  next hm => exact h.answer _ _ (by simpa using hr) (h.demand hm (Nat.min_le_right _ _) hp)

theorem clearRequest {s : State} (hr : s.resetHeld = false) (hp : P s) : P (clearRequest s) := by
  unfold Machine.clearRequest
  split
  next hm => exact h.answer _ _ (by simpa using hr) (h.start (.inl hm) hp)
  · exact h.answer _ _ hr hp

theorem sleepRequest {s : State} (hr : s.resetHeld = false) (hp : P s) : P (sleepRequest s) := by
  unfold Machine.sleepRequest
  split
  next hm => exact h.answer _ _ (by simpa using hr) (h.sleep hm hp)
  · exact h.answer _ _ hr hp

theorem relearnRequest {s : State} (hr : s.resetHeld = false) (hp : P s) : P (relearnRequest s) := by
  unfold Machine.relearnRequest
  split
  next hm => exact h.answer _ _ (by simpa using hr) (h.isolate true hm hp)
  · exact h.answer _ _ hr hp

theorem programRequest {s : State} (r : Record) (hr : s.resetHeld = false) (hp : P s) : P (programRequest r s) := by
  unfold Machine.programRequest
  split
  · exact h.port (s := s) _ s.mask s.latch s.straddling (some r) true hr hp
  · exact h.answer _ _ hr hp

theorem takeRequest {s : State} (hr : s.resetHeld = false) (hp : P s) : P (takeRequest s) := by
  rw [takeRequest_frame]
  exact h.port _ s.mask _ s.straddling s.writing s.written hr hp

theorem entryRequest {s : State} (a : Byte) (hr : s.resetHeld = false) (hp : P s) : P (entryRequest a s) := by
  rw [entryRequest_frame]
  exact h.port _ s.mask s.latch s.straddling s.writing s.written hr hp

theorem clear {s : State} (hp : P s) : P (Machine.transaction Machine.clearRequest s) :=
  h.transaction (fun hr => h.clearRequest hr hp)
    (fun hm => by simp [Machine.clearRequest, hm]) hp

/-! ### The share line outside frames -/

theorem addHigh {s : State} (high : Nat) (hm : s.mode ≠ .unconfigured) (hp : P s) : P (addHigh high s) := by
  rw [addHigh_writes]
  exact h.line _ s.lineLow s.wakeArmed s.joinCondition hm hp

theorem busWake {s : State} (hp : P s) : P (busWake s) := by
  unfold Machine.busWake
  split
  next hw =>
    simp only [Bool.and_eq_true] at hw
    have hd := (wakeDetectorOn_iff.1 hw.1).2.1
    exact h.line (wakeStation s).highTime (some (.seen false)) (wakeStation s).wakeArmed (wakeStation s).joinCondition
      (by simp) (h.wake hd hp)
  · exact hp

theorem armWakeDetector {s : State} (high : Nat) (hp : P s) : P (armWakeDetector high s) := by
  unfold Machine.armWakeDetector
  split
  next hw =>
    have hm : s.mode ≠ .unconfigured := by rw [(wakeDetectorOn_iff.1 hw).2.1]; nofun
    exact h.line (Machine.addHigh high s).highTime (Machine.addHigh high s).lineLow _ (Machine.addHigh high s).joinCondition
      (by simpa using hm) (h.addHigh high hm hp)
  · exact hp

theorem joinQuiet {s : State} (high : Nat) (hp : P s) : P (joinQuiet high s) := by
  unfold Machine.joinQuiet
  split
  next hl =>
    have hm := mode_ne_of_lineOn hl
    have ha := h.addHigh high hm hp
    dsimp only
    split
    · exact h.queue .census (by simpa using hm) (h.line _ _ (Machine.addHigh high s).wakeArmed true (by simpa using hm) ha)
    · exact ha
  · exact hp

theorem quietClose {s : State} (high : Nat) (hp : P s) : P (quietClose high s) := by
  unfold Machine.quietClose
  split
  next hl =>
    have ha := h.addHigh high (mode_ne_of_lineOn hl) hp
    dsimp only
    split
    next hw =>
      simp only [State.windowOpen, Bool.and_eq_true, decide_eq_true_eq] at hw
      obtain ⟨⟨⟨⟨⟨-, hlearning⟩, -⟩, -⟩, -⟩, -⟩ := hw
      exact h.member (by simpa using hlearning) ha
    · exact ha
  · exact hp

theorem breakStart {s : State} (high : Nat) (hp : P s) : P (breakStart high s) := by
  unfold Machine.breakStart
  split
  next hs =>
    simp only [State.maySend, Bool.and_eq_true, Bool.not_eq_true'] at hs
    obtain ⟨⟨hl, -⟩, hsend⟩ := hs
    have hm := mode_ne_of_lineOn hl
    have ha := h.addHigh high hm hp
    dsimp only
    split
    next hw =>
      simp only [State.waitPassed, State.lineHigh, Bool.and_eq_true, Option.isNone_iff_eq_none] at hw
      obtain ⟨⟨⟨-, ho⟩, -⟩, -⟩ := hw
      exact h.serve (by simpa using hm) (by simpa [State.sending] using hsend) ho ha
    · exact ha
  · exact hp

theorem breakLimit {s : State} (low : Nat) (hp : P s) : P (breakLimit low s) := by
  unfold Machine.breakLimit
  split
  · exact hp
  next o ho =>
    split
    next hrole =>
      have hsend : s.sending = true := by simp [State.sending, ho, hrole]
      dsimp only
      split
      · have := h.cut (.inr (by simp [State.followed, ho])) hp
        rwa [if_pos hsend] at this
      · exact h.ownBreak _ ho hp
    · exact hp

theorem lowGoesOn {s : State} (c : PulseClass) (hp : P s) : P (lowGoesOn c s) := by
  unfold Machine.lowGoesOn
  split
  next hl =>
    split
    · unfold Machine.breakRecognised
      split
      · exact hp
      · exact h.cut (.inl (lineOn_iff.1 hl).2) hp
    · rw [fallingEdge_writes]
      exact h.line _ _ s.wakeArmed s.joinCondition (mode_ne_of_lineOn hl) hp
  · split
    next hd =>
      simp only [Bool.and_eq_true, decide_eq_true_eq] at hd
      exact h.line 0 _ s.wakeArmed s.joinCondition (by simp [hd.2]) hp
    · exact hp

theorem breakSeen {s : State} (low : Nat) (hp : P s) : P (breakSeen low s) := by
  unfold Machine.breakSeen
  split
  · exact hp
  · exact h.lowGoesOn _ (h.busWake hp)

theorem lowEnds {s : State} (c : PulseClass) (hp : P s) : P (lowEnds c s) := by
  unfold Machine.lowEnds
  split
  next hl =>
    split
    · exact h.line 0 none s.wakeArmed s.joinCondition (mode_ne_of_lineOn hl) hp
    · exact hp
  · split
    next hd =>
      simp only [Bool.and_eq_true, decide_eq_true_eq] at hd
      exact h.line 0 none s.wakeArmed s.joinCondition (by simp [hd.2]) hp
    · exact hp

theorem strayLow {s : State} (width : Nat) (hp : P s) : P (strayLow width s) := by
  unfold Machine.strayLow
  split
  · exact hp
  · exact h.lowEnds _ (h.busWake hp)

/-! ### Frames -/

theorem applyVerdict {s : State} {r : FrameRecord} (hl : s.mode.listening = true) (ho : s.opening = none)
    (hf : s.frame = some r) (hrole : r.role = .receiver) (hp : P s) :
    P (applyVerdict r (knownFrameEnd { s with frame := none })) := by
  have hk : P (knownFrameEnd { s with frame := none }) := h.known ho hf (by simp [hrole]) hp
  have hrun := Mode.running_of_listening hl
  unfold Machine.applyVerdict
  split
  · exact h.fault (by simpa using hrun) nofun hk
  · split
    · exact h.mute (by simpa using hl) hk
    · exact hk
  next hv =>
    split
    next f hfields =>
      split
      · exact hk
      · have ha := h.apply hl ho hf hrole hv hfields hp
        unfold answerCensus
        split
        · exact h.queue .renew (by simpa using Mode.ne_unconfigured_of_running hrun) ha
        · exact ha
    · exact hk
  · exact hk
  · exact hk

theorem endFollowed {s : State} {r : FrameRecord} (ho : s.opening = none) (hf : s.frame = some r)
    (hrole : r.role ≠ .sender) (hp : P s) : P (endFollowed s) := by
  simp only [Machine.endFollowed, hf]
  split
  next hl =>
    simp only [Bool.and_eq_true, decide_eq_true_eq] at hl
    exact h.applyVerdict hl.2 ho hf hl.1 hp
  · exact h.known ho hf hrole hp

theorem hearTo {s : State} {r : FrameRecord} (now : Nat) (lows : List Low) (hr : s.followed = some r)
    (hrole : r.role ≠ .sender) (hp : P s) : P (hearTo r now lows s) := by
  have followed : ∀ n, ∃ r', (followTo r n lows s).frame = some r' ∧ r'.role ≠ .sender ∧
      (followTo r n lows s).opening = none := by
    intro n
    obtain ⟨r', hf, -, hrole', -, ho⟩ := followTo_frame r n lows s
    exact ⟨r', hf, hrole' ▸ hrole, ho⟩
  unfold Machine.hearTo
  split
  next l _ =>
    obtain ⟨r', hf, hrole', ho⟩ := followed (max r.elapsed (l.start + Config.breakWidth - 1))
    have hcut := h.cut (.inr (by simp [State.followed, ho, hf]))
      (h.follow (max r.elapsed (l.start + Config.breakWidth - 1)) lows hr hrole hp)
    rwa [if_neg (by simp [State.sending, ho, hf, hrole'])] at hcut
  · split
    · obtain ⟨r', hf, hrole', ho⟩ := followed now
      exact h.endFollowed ho hf hrole' (h.follow _ lows hr hrole hp)
    · exact h.follow _ lows hr hrole hp

theorem heardTo {s : State} (reached : Nat) (lows : List Low) (hp : P s) : P (heardTo reached lows s) := by
  unfold Machine.heardTo
  split
  · exact hp
  next r hr =>
    split
    · exact hp
    next hs =>
      simp only [Bool.or_eq_true, decide_eq_true_eq, not_or] at hs
      exact h.hearTo _ lows hr hs.1 hp

theorem lostArbitration {s : State} (lows : List Low) (hp : P s) : P (lostArbitration lows s) := by
  unfold Machine.lostArbitration
  split
  · exact hp
  next r hr =>
    split
    next hrole _ _ =>
      split
      · exact h.lose _ _ hr hrole hp
      · exact hp
    · exact hp

theorem sendTo {s : State} {r : FrameRecord} {sent : SentFrame} (now : Nat) (lows : List Low)
    (hr : s.followed = some r) (hrole : r.role = .sender) (hp : P s) : P (sendTo r sent now lows s) := by
  unfold Machine.sendTo
  split
  · exact h.lose _ _ hr hrole hp
  · exact h.send now lows hr hrole hrole rfl hp

/-- The own frame on its way: `P` is kept, or the frame has come to its end with no break inside it and is concluded
(R80, R81). -/
theorem ownTo_or {s : State} {r : FrameRecord} {sent : SentFrame} (now : Nat) (lows : List Low)
    (hr : s.followed = some r) (hrole : r.role = .sender) (hp : P s) :
    P (ownTo r sent now lows s) ∨
    ∃ r', breakInside now lows = none ∧ Config.frameEnd ≤ now ∧ (Machine.sendTo r sent now lows s).frame = some r' ∧
      (Machine.sendTo r sent now lows s).opening = none ∧ r'.role = .sender ∧ r'.sent = r.sent ∧
      P (Machine.sendTo r sent now lows s) ∧
      ownTo r sent now lows s = concludeOwn r' sent (Machine.sendTo r sent now lows s) := by
  unfold Machine.ownTo
  split
  next l _ =>
    have hsend := h.sendTo (sent := sent) (max r.elapsed (l.start + Config.breakWidth - 1)) lows hr hrole hp
    obtain ⟨r', hf, ho, -⟩ := sendTo_frame r sent (max r.elapsed (l.start + Config.breakWidth - 1)) lows s
    left
    dsimp only
    split
    next hs =>
      have hcut := h.cut (.inr (by simp [State.followed, ho, hf])) hsend
      rwa [if_pos hs] at hcut
    · exact h.heardTo now lows hsend
  next hbreak =>
    have hsend := h.sendTo (sent := sent) now lows hr hrole hp
    obtain ⟨r', hf, ho, hs'⟩ := sendTo_frame r sent now lows s
    simp only [hf]
    split
    · exact .inl (h.heardTo now lows hsend)
    next hs =>
      have hrole' : r'.role = .sender := by simpa using hs
      split
      next hend => exact .inr ⟨r', hbreak, hend, rfl, ho, hrole', hs' hrole', hsend, rfl⟩
      · exact .inl hsend

theorem outcomeWith {outcome : State → State} {s : State} (behind : Behind) (ho : ∀ {s}, P s → P (outcome s))
    (hp : P s) : P (outcomeWith behind outcome s) := by
  cases behind with
  | nothing => exact ho hp
  | renewTimer =>
    show P (withRenewBehind outcome s)
    unfold withRenewBehind
    dsimp only
    split
    next hd =>
      simp only [Bool.and_eq_true] at hd
      have hr : s.resetHeld = false := renewDue_resetHeld hd.1.1
      have ht := ho (h.timers .due s.censusRetry s.recovery s.supplyLow hr hp)
      split
      next hq =>
        simp only [Bool.and_eq_true, decide_eq_true_eq] at hq
        exact h.queue .renew (by simp [hq.2]) ht
      · exact ht
    · exact ho hp
  | selfLease =>
    rcases withSelfLeaseBehind_cases outcome s with e | ⟨-, hm, e⟩ <;> simp only [Machine.outcomeWith, e]
    · exact ho hp
    · exact h.isolate false (.inl hm) (ho hp)

/-! ### The lease clock and the load side -/

theorem takeSelfLease {s : State} (hp : P s) : P (takeSelfLease s) := by
  unfold Machine.takeSelfLease
  split
  next hd => exact h.isolate false (.inl (selfLeaseDue_mode hd)) hp
  · exact hp

theorem endMuteWait {s : State} (hp : P s) : P (endMuteWait s) := by
  unfold Machine.endMuteWait
  split
  next hd => exact h.start (.inr (muteWaitDue_mode hd)) hp
  · exact hp

theorem renewExpires {s : State} (hr : s.resetHeld = false) (hp : P s) : P (renewExpires s) := by
  have ht := h.timers .due s.censusRetry s.recovery s.supplyLow hr hp
  unfold Machine.renewExpires
  dsimp only
  split
  next hq =>
    simp only [Bool.and_eq_true, decide_eq_true_eq] at hq
    exact h.queue .renew (by simp [hq.1]) ht
  · exact ht

theorem censusRetryExpires {s : State} (hr : s.resetHeld = false) (hp : P s) : P (censusRetryExpires s) := by
  have ht := h.timers s.renewTimer none s.recovery s.supplyLow hr hp
  unfold Machine.censusRetryExpires
  dsimp only
  split
  next hq => exact h.queue .census (by rcases hq with hq | hq <;> simp [hq]) ht
  · exact ht

theorem takeBetween {s : State} (between : Between) (hp : P s) : P (takeBetween between s) := by
  cases between with
  | nothing => exact hp
  | selfLease => exact h.takeSelfLease hp
  | clear => exact h.clear hp
  | muteWait => exact h.endMuteWait hp

theorem takeSample {s : State} (sensed : Nat) (between : Between) (hp : P s) : P (takeSample sensed between s) := by
  unfold Machine.takeSample
  split
  next hon =>
    unfold judgeSample
    split
    · exact h.settle hon hp
    · have hu := h.under (sampleCode sensed) hon hp
      have hon' : (judgeUnder (sampleCode sensed) s).samplerOn = true := by simpa [State.samplerOn] using hon
      rcases judgeOverdraw_cases between (sampleCode sensed) (judgeUnder (sampleCode sensed) s) with
        ⟨-, hn, e⟩ | ⟨-, e⟩ | ⟨-, -, e⟩ <;> rw [e]
      · exact h.overdraw hon' (by omega) hu
      · exact h.overdraw hon' (by omega) hu
      · have hb := h.takeBetween between (h.overdraw (n := 0) hon' (by omega) hu)
        exact h.fault (takeBetween_running (samplerOn_iff.1 hon').2) nofun hb
  · exact hp

/-! ### The commands -/

/-- What every effect but the end of an own frame keeps, every command keeps but those three and the own frame's. -/
theorem exec {c : Instr} {s : State} (hreset : c ≠ .reset) (hread : ∀ pins, c ≠ .readEvent pins)
    (hwrite : c ≠ .programWriteComplete) (hown : ∀ report, c ≠ .ownFrameOutcome report) (hp : P s) :
    ∃ t, exec c s = .next t ∧ P t := by
  cases c with
  | reset => exact absurd rfl hreset
  | readEvent pins => exact absurd rfl (hread pins)
  | programWriteComplete => exact absurd rfl hwrite
  | status => exact ⟨_, rfl, h.transaction (fun hr => h.answer _ _ hr hp) id hp⟩
  | entry a => exact ⟨_, rfl, h.transaction (fun hr => h.entryRequest a hr hp)
      (fun hm => by rw [entryRequest_frame]; exact hm) hp⟩
  | options => exact ⟨_, rfl, h.transaction (fun hr => h.answer _ _ hr hp) id hp⟩
  | demand d => exact ⟨_, rfl, h.transaction (fun hr => h.demandRequest d hr hp)
      (fun hm => by simp [Machine.demandRequest, hm]) hp⟩
  | clear => exact ⟨_, rfl, h.clear hp⟩
  | sleep => exact ⟨_, rfl, h.transaction (fun hr => h.sleepRequest hr hp)
      (fun hm => by simp [Machine.sleepRequest, State.maySleep, hm]) hp⟩
  | relearn => exact ⟨_, rfl, h.transaction (fun hr => h.relearnRequest hr hp)
      (fun hm => by simp [Machine.relearnRequest, hm]) hp⟩
  | program b1 b2 b3 b4 b5 => exact ⟨_, rfl, h.transaction (fun hr => h.programRequest _ hr hp)
      (fun hm => by simp [Machine.programRequest, State.mayProgram, hm]) hp⟩
  | take => exact ⟨_, rfl, h.transaction (fun hr => h.takeRequest hr hp)
      (fun hm => by rw [takeRequest_frame]; exact hm) hp⟩
  | mask high low => exact ⟨_, rfl, h.transaction
      (fun hr => h.port (s := s) _ (maskWord high low) s.latch s.straddling s.writing s.written hr hp) id hp⟩
  | badRequest code =>
    refine ⟨_, rfl, ?_⟩
    unfold badRequest
    split
    · exact hp
    · exact h.transaction (fun hr => h.answer _ _ hr hp) id hp
  | selectRisesEarly => exact ⟨_, rfl, h.transaction
      (fun hr => h.port [] s.mask s.latch s.straddling s.writing s.written hr hp) id hp⟩
  | busWake => exact ⟨_, rfl, h.busWake hp⟩
  | wakeDetectorArmed high => exact ⟨_, rfl, h.armWakeDetector high hp⟩
  | joinQuiet high => exact ⟨_, rfl, h.joinQuiet high hp⟩
  | breakStart high => exact ⟨_, rfl, h.breakStart high hp⟩
  | breakLimit low => exact ⟨_, rfl, h.breakLimit low hp⟩
  | breakPulse low => exact ⟨_, rfl, h.breakSeen low hp⟩
  | strayLow width => exact ⟨_, rfl, h.strayLow width hp⟩
  | lost lows => exact ⟨_, rfl, h.lostArbitration lows hp⟩
  | heardFrame report => exact ⟨_, rfl, h.heardTo _ _ hp⟩
  | ownFrameOutcome report => exact absurd rfl (hown report)
  | quietClose high => exact ⟨_, rfl, h.quietClose high hp⟩
  | cap =>
    refine ⟨_, rfl, ?_⟩
    split
    next hd => exact h.member (capDue_mode hd) hp
    · exact hp
  | lapse a =>
    refine ⟨_, rfl, ?_⟩
    split
    next hd => exact h.lapse a hd hp
    · exact hp
  | removal a =>
    refine ⟨_, rfl, ?_⟩
    split
    next hd => exact h.remove a hd hp
    · exact hp
  | selfLease => exact ⟨_, rfl, h.takeSelfLease hp⟩
  | renewTimerExpiry =>
    refine ⟨_, rfl, ?_⟩
    split
    next hd => exact h.renewExpires (renewDue_resetHeld hd) hp
    · exact hp
  | suppressionTimerExpiry =>
    refine ⟨_, rfl, ?_⟩
    split
    next hd =>
      simp only [State.suppressionDue, Bool.and_eq_true, Bool.not_eq_true'] at hd
      exact h.lift hd.1 hp
    · exact hp
  | censusRetryTimerExpiry =>
    refine ⟨_, rfl, ?_⟩
    split
    next hd =>
      simp only [State.censusRetryDue, Bool.and_eq_true, Bool.not_eq_true'] at hd
      exact h.censusRetryExpires hd.1 hp
    · exact hp
  | muteWaitExpiry => exact ⟨_, rfl, h.endMuteWait hp⟩
  | rampStep =>
    refine ⟨_, rfl, ?_⟩
    split
    next hd => exact h.ramp hd hp
    · exact hp
  | sample sensed => exact ⟨_, rfl, h.takeSample _ _ hp⟩
  | droopAssertion =>
    refine ⟨_, rfl, ?_⟩
    split
    next hd =>
      simp only [Bool.and_eq_true] at hd
      exact h.droop hd.1 hp
    · exact hp
  | droopDeassertion =>
    refine ⟨_, rfl, ?_⟩
    split
    next hd =>
      simp only [Bool.and_eq_true] at hd
      exact h.timers s.renewTimer s.censusRetry _ false (droopMonitorOn_iff.1 hd.1).1 hp
    · exact hp
  | recoveryTimerExpiry =>
    refine ⟨_, rfl, ?_⟩
    split
    next hd =>
      simp only [State.recoveryDue, Bool.and_eq_true] at hd
      exact h.recover hd.1 hp
    · exact hp

end KeptUntilEnd

namespace Kept

variable {P : State → Prop} (h : Kept P)
include h

theorem ownFrameOutcome {s : State} (reached : Nat) (lows : List Low) (hp : P s) : P (ownFrameOutcome reached lows s) := by
  unfold Machine.ownFrameOutcome
  split
  · exact hp
  next r hr =>
    split
    next hrole hsent =>
      rcases h.ownTo_or _ _ hr hrole hp with hkept | ⟨r', -, -, hf, ho, hrole', hsent', hsend, e⟩
      · exact hkept
      · rw [e]
        exact h.conclude _ ho hf hrole' (hsent'.trans hsent) hsend
    · exact hp

/-- A station on which every effect keeps `P` keeps it under every command but those three. -/
theorem exec {c : Instr} {s : State} (hreset : c ≠ .reset) (hread : ∀ pins, c ≠ .readEvent pins)
    (hwrite : c ≠ .programWriteComplete) (hp : P s) : ∃ t, exec c s = .next t ∧ P t := by
  by_cases hown : ∃ report, c = .ownFrameOutcome report
  · obtain ⟨report, rfl⟩ := hown
    exact ⟨_, rfl, h.outcomeWith report.behind (h.ownFrameOutcome _ _) hp⟩
  · exact h.toKeptUntilEnd.exec hreset hread hwrite (not_exists.1 hown) hp

/-- With RESET, the read event, a completed write and the lease tick, and a queue that `P` does not read, every step
keeps `P`. -/
theorem step {s t : State} (hqueue : ∀ {s : State} (l : List Instr), P s → P { s with pending := l })
    (hhold : ∀ {s : State}, P s → P (holdReset s)) (hrelease : ∀ {s : State} (pins : ReadPins), s.resetHeld = true →
      P s → P (releaseReset pins s))
    (hwrite : ∀ {s : State}, P s → P (completeWrite s)) (htick : ∀ {s : State}, P s → P (leaseTick s))
    (hp : P s) (hs : step s = .next t) : P t := by
  unfold Machine.step at hs
  split at hs
  next c rest _ =>
    have hp' := hqueue rest hp
    by_cases hc : c = .reset ∨ (∃ pins, c = .readEvent pins) ∨ c = .programWriteComplete
    · rcases hc with rfl | ⟨pins, rfl⟩ | rfl <;> obtain rfl := Host.Outcome.next.inj hs
      · exact hhold hp'
      · dsimp only
        split
        next hr => exact hrelease pins hr hp'
        · exact hp'
      · exact hwrite hp'
    · simp only [not_or, not_exists] at hc
      obtain ⟨u, hu, hpu⟩ := h.exec hc.1 hc.2.1 hc.2.2 hp'
      rw [hu] at hs
      exact Host.Outcome.next.inj hs ▸ hpu
  · exact Host.Outcome.next.inj hs ▸ htick hp

end Kept
end Sys2Proof.Machine
end

section
/-! What every step keeps of the output: it stays within the own holding, and a holding exists only in MEMBER with droop
hold clear (R136, R7). The one raise of the holding, an accepted CLAIM, takes place there (R59); every entry to another
state gives the holding up. -/

namespace Sys2Proof.Machine

/-- The two conditions that the steps keep together. -/
structure State.LoadInv (s : State) : Prop where
  output : s.OutputInv
  holding : s.HoldingInv

/-! ### What the condition reads -/

theorem State.LoadInv.congr {s t : State} (h : s.LoadInv)
    (e : t.rampTarget = s.rampTarget ∧ t.holding = s.holding ∧ t.level = s.level ∧ t.mode = s.mode ∧
      t.droopHold = s.droopHold) : t.LoadInv := by
  obtain ⟨hr, hh, hl, hm, hd⟩ := e
  exact ⟨by simpa [State.OutputInv, hr, hh, hl] using h.output, by simpa [State.HoldingInv, hh, hm, hd] using h.holding⟩

/-- A station that holds nothing meets it in every state. -/
theorem State.LoadInv.of_output {s : State} (ho : s.OutputInv) (hh : s.holding = 0) : s.LoadInv := ⟨ho, .inl hh⟩

theorem recompute_loadInv {s : State} (h : s.LoadInv) : (recompute s).LoadInv := by
  refine ⟨recompute_outputInv h.output, ?_⟩
  rcases h.holding with hh | ⟨hm, hd⟩
  · exact .inl (by simp [hh])
  · exact .inr (by simp [hm, hd])

theorem rosterPass_loadInv {s : State} (was : Bool) (h : s.LoadInv) : (rosterPass was s).LoadInv :=
  recompute_loadInv (h.congr (by simp))

theorem ownPass_loadInv {s : State} (before : State) (h : s.LoadInv) : (ownPass before s).LoadInv := by
  unfold ownPass
  split
  · exact rosterPass_loadInv _ h
  · exact h

theorem entryPass_loadInv {s : State} (before : State) (h : s.LoadInv) : (entryPass before s).LoadInv := by
  unfold entryPass
  split
  · exact recompute_loadInv (h.congr (by simp))
  · exact recompute_loadInv h

theorem announceDemand_loadInv {s : State} (before : State) (h : s.LoadInv) : (announceDemand before s).LoadInv :=
  h.congr (by simp)

/-! ### The entries to the station states -/

/-- The holding is given up, whatever else an entry writes (R137). -/
theorem setHolding_zero_loadInv {s t : State} (h : s.OutputInv) (hr : t.rampTarget = (setHolding 0 s).rampTarget)
    (hh : t.holding = 0) (hl : t.level = (setHolding 0 s).level) : t.LoadInv := by
  have ho := setHolding_output h 0
  exact .of_output ⟨by rw [hr, hh, ho.1], by rw [hl, hh, ho.2]; omega⟩ hh

theorem enterStart_loadInv (s : State) : (enterStart s).LoadInv := by
  unfold enterStart
  exact recompute_loadInv (.of_output (by simp [State.OutputInv]) (by simp))

theorem enterDormant_loadInv (s : State) : (enterDormant s).LoadInv := by
  unfold enterDormant
  exact recompute_loadInv (.of_output (by simp [State.OutputInv]) (by simp))

theorem enterIsolated_loadInv {s : State} (relearn : Bool) (h : s.OutputInv) : (enterIsolated relearn s).LoadInv := by
  unfold enterIsolated
  apply entryPass_loadInv
  have ho : State.OutputInv { s with mode := .isolated, windowCap := none, muteWait := none, joinCondition := false } := h
  split <;> exact setHolding_zero_loadInv ho (by simp) (by simp) (by simp)

theorem enterFault_loadInv {s : State} (cause : FaultCause) (h : s.LoadInv) : (enterFault cause s).LoadInv := by
  unfold enterFault
  split
  · exact h
  · apply entryPass_loadInv
    have ho : State.OutputInv (demoteReceiver { s with
        mode := .fault, faultCause := cause, windowCap := none, muteWait := none, joinCondition := false }) := h.output
    split <;> exact setHolding_zero_loadInv ho (by simp) (by simp) (by simp)

theorem enterMute_loadInv {s : State} (h : s.OutputInv) : (enterMute s).LoadInv := by
  unfold enterMute
  apply entryPass_loadInv
  have ho : State.OutputInv (demoteReceiver { s with
      mode := .mute, muteWait := some 0, windowCap := none, joinCondition := false }) := h
  exact setHolding_zero_loadInv ho (by simp) (by simp) (by simp)

/-- Outside MEMBER nothing is held, so the entry to MEMBER takes nothing along. -/
theorem enterMember_loadInv {s : State} (hm : s.mode = .learning) (h : s.LoadInv) : (enterMember s).LoadInv := by
  have hh : s.holding = 0 := by
    rcases h.holding with hh | ⟨hm', -⟩
    · exact hh
    · rw [hm] at hm'; cases hm'
  unfold enterMember
  dsimp only
  apply recompute_loadInv
  split <;> exact .of_output h.output hh

theorem enterLearning_loadInv {s : State} (carried : Nat) (hm : s.mode = .start ∨ s.mode = .isolated) (h : s.LoadInv) :
    (enterLearning carried s).LoadInv := by
  have hh : s.holding = 0 := by
    rcases h.holding with hh | ⟨hm', -⟩
    · exact hh
    · rcases hm with hm | hm <;> rw [hm] at hm' <;> cases hm'
  have hp := ownPass_loadInv s (s := { s with
      mode := .learning
      windowCap := some 0
      highTime := 0
      joinCondition := false
      censusRetry := none
      outbox := (s.outbox.cancel fun k => decide (k = .census)).put .census none }) (.of_output h.output hh)
  unfold enterLearning
  dsimp only
  split
  · exact hp.congr (by simp)
  · exact hp

/-! ### The other effects -/

theorem setRequested_loadInv {s : State} (r : Nat) (h : s.LoadInv) : (setRequested r s).LoadInv := by
  unfold setRequested
  split
  · exact h
  · have hp := ownPass_loadInv s (s := liftSuppression { s with requested := r }) (h.congr (by simp))
    exact hp.congr (by simp)

/-- An accepted CLAIM gives the claimed holding in MEMBER with droop hold clear alone (R59, R60). -/
theorem acceptOwnFrame_loadInv {s : State} (f : FrameFields) (h : s.LoadInv) : (acceptOwnFrame f s).LoadInv := by
  have h1 : State.LoadInv { s with ownAge := 0, renewTimer := .running 0 } := h.congr (by simp)
  unfold acceptOwnFrame
  dsimp only
  split
  · exact h1
  · exact h1
  · split
    next hc =>
      simp only [Bool.and_eq_true, decide_eq_true_eq, Bool.not_eq_true'] at hc
      have hs : (setHolding f.holding { s with ownAge := 0, renewTimer := .running 0 }).LoadInv :=
        ⟨setHolding_outputInv h1.output _, .inr (by simp [hc])⟩
      apply recompute_loadInv
      split <;> exact hs.congr (by simp)
    · exact h1.congr (by simp)
  · split
    next hm => exact enterLearning_loadInv _ hm h1
    · exact h1

theorem endOwnFrame_loadInv {s : State} (sent : SentFrame) (out : FrameOutcome) (h : s.LoadInv) :
    (endOwnFrame sent out s).LoadInv := by
  have hk : (knownFrameEnd { takeOutcome out s with frame := none }).LoadInv :=
    h.congr (by simp)
  unfold endOwnFrame
  dsimp only
  split
  · exact acceptOwnFrame_loadInv _ hk
  · exact enterFault_loadInv _ hk
  · exact hk

theorem applyFrame_loadInv {s : State} (f : FrameFields) (h : s.LoadInv) : (applyFrame f s).LoadInv := by
  unfold applyFrame
  dsimp only
  split
  · exact rosterPass_loadInv _ (h.congr (by simp))
  · split
    · exact h.congr (by simp)
    · exact rosterPass_loadInv _ (h.congr (by simp))

theorem assertDroop_loadInv {s : State} (h : s.OutputInv) : (assertDroop s).LoadInv := by
  have h1 : State.OutputInv { s with
      supplyLow := true
      droopHold := true
      recovery := none
      outbox := (s.outbox.cancel fun k => decide (k = .claim)).put .claim none } := h
  unfold assertDroop
  refine (announceDemand_loadInv s (ownPass_loadInv s ?_)).congr ⟨rfl, rfl, rfl, rfl, rfl⟩
  split <;> exact setHolding_zero_loadInv h1 (by simp) (by simp) (by simp)

/-- Droop hold clears over a holding that is 0, or is clear already (R143, R144). -/
theorem clearDroopHold_loadInv {s : State} (h : s.LoadInv) : (clearDroopHold s).LoadInv := by
  have h1 : State.LoadInv { s with droopHold := false, recovery := none } :=
    ⟨h.output, h.holding.imp id fun ⟨hm, _⟩ => ⟨hm, rfl⟩⟩
  unfold clearDroopHold
  exact (entryPass_loadInv s h1).congr (by simp)

/-- Every effect of a command keeps the output within the holding and the holding within MEMBER. -/
theorem loadInv_kept : Kept State.LoadInv where
  port _ _ _ _ _ _ _ h := h.congr (by simp)
  timers _ _ _ _ _ h := h.congr (by simp)
  line _ _ _ _ _ h := h.congr (by simp)
  queue _ _ h := h.congr (by simp)
  demand _ _ h := setRequested_loadInv _ h
  wake _ _ := enterStart_loadInv _
  start _ _ := enterStart_loadInv _
  sleep _ _ := enterDormant_loadInv _
  isolate _ _ h := enterIsolated_loadInv _ h.output
  fault _ _ h := enterFault_loadInv _ h
  mute _ h := enterMute_loadInv h.output
  member hm h := enterMember_loadInv hm h
  serve _ _ _ h := h.congr (by simp)
  ownBreak _ _ h := h.congr (by simp)
  cut _ h := by split <;> exact h.congr (by simp)
  lose _ _ _ _ h := h.congr (by simp)
  follow _ _ _ _ h := h.congr (by simp)
  send _ _ _ _ _ _ h := h.congr (by simp)
  known _ _ _ h := h.congr (by simp)
  apply _ _ _ _ _ _ h := applyFrame_loadInv _ (h.congr (by simp))
  conclude _ _ _ _ _ h := endOwnFrame_loadInv _ _ h
  lapse a _ h := by
    unfold lapseEntry
    split
    · exact h
    · exact rosterPass_loadInv _ (h.congr (by simp))
  remove _ _ h := rosterPass_loadInv _ (h.congr (by simp))
  lift _ h := recompute_loadInv (h.congr (by simp))
  ramp hd h := by
    simp only [State.rampDue, Bool.and_eq_true, decide_eq_true_eq] at hd
    obtain ⟨⟨hramp, -⟩, hhold⟩ := h
    exact ⟨⟨hramp, by simp; omega⟩, hhold⟩
  settle _ h := h.congr (by simp)
  under code _ h := by rw [judgeUnder_writes]; exact h.congr (by simp)
  overdraw _ _ h := h.congr (by simp)
  droop _ h := assertDroop_loadInv h.output
  recover _ h := clearDroopHold_loadInv h

/-- Settles O55: reset and the read event leave no holding, the lease tick touches neither holding nor level, and every
command is made of effects that keep both conditions. -/
theorem outputStaysWithinHolding : Obligations.OutputStaysWithinHolding := by
  intro s t ho hh hs
  have ht : t.LoadInv := loadInv_kept.step (fun _ h => h.congr (by simp)) ?hold ?release ?write ?tick
    ⟨ho, hh⟩ hs
  case hold =>
    intro s _
    rw [holdReset_eq]
    exact .of_output ⟨rfl, Nat.le_refl 0⟩ rfl
  case release =>
    intro s pins _ _
    rcases releaseReset_cases pins s with ⟨-, e⟩ | ⟨-, e⟩ <;> rw [e]
    · exact enterStart_loadInv _
    · exact .of_output ⟨rfl, Nat.le_refl 0⟩ rfl
  case write =>
    intro s h
    rw [completeWrite_eq]
    exact h.congr (by simp)
  case tick =>
    intro s h
    unfold leaseTick
    split
    · exact h
    · exact h.congr (by simp)
  exact ⟨ht.output, ht.holding⟩

end Sys2Proof.Machine
end

section
/-! What every step keeps of the roster: it is a table with no replica at the own address (R4, R7), and a receiver's
verdict of ACK stands over another station's frame (R43, R46). The second is what the first needs: the only write from
outside goes to the sender's address of a frame judged ACK. -/

namespace Sys2Proof.Machine

/-- The two conditions that the steps keep together. -/
structure State.TableInv (s : State) : Prop where
  roster : s.RosterInv
  verdict : s.VerdictInv

/-! ### What the conditions read -/

theorem State.VerdictInv.congr {s t : State} (h : s.VerdictInv) (e : t.address = s.address ∧ t.frame = s.frame) :
    t.VerdictInv := by simpa [State.VerdictInv, e] using h

theorem State.VerdictInv.of_no_frame {s : State} (h : s.frame = none) : s.VerdictInv := by simp [State.VerdictInv, h]

theorem State.TableInv.congr {s t : State} (h : s.TableInv)
    (e : t.address = s.address ∧ t.replicas = s.replicas ∧ t.frame = s.frame) : t.TableInv :=
  ⟨by simpa [State.RosterInv, e] using h.roster, h.verdict.congr ⟨e.1, e.2.2⟩⟩

/-- With no peers' entry and no frame followed there is nothing to keep. -/
theorem State.TableInv.of_empty {s : State} (hr : s.replicas = []) (hf : s.frame = none) : s.TableInv :=
  ⟨by simp [State.RosterInv, hr, rising, findEntry], .of_no_frame hf⟩

theorem State.TableInv.of_no_frame {s t : State} (h : s.RosterInv) (ha : t.address = s.address)
    (hr : t.replicas = s.replicas) (hf : t.frame = none) : t.TableInv :=
  ⟨by simpa [State.RosterInv, ha, hr] using h, .of_no_frame hf⟩

/-- A write at another address keeps the roster a table without the own address. -/
theorem State.RosterInv.put {s t : State} {e : Entry} (h : s.RosterInv) (he : e.address ≠ s.address)
    (ha : t.address = s.address) (hr : t.replicas = putEntry e s.replicas) : t.RosterInv := by
  refine ⟨by rw [hr]; exact rising_putEntry h.1, ?_⟩
  rw [hr, ha, findEntry_putEntry_of_ne he.symm]
  exact h.2

/-- A record without an ACK of a receiver says nothing of its sender. -/
theorem State.VerdictInv.of_frame {s : State} {r : FrameRecord} (hf : s.frame = some r)
    (h : r.role = .receiver → r.verdict = some .ack → ∀ f ∈ r.fields, f.sender ≠ s.address) : s.VerdictInv := by
  intro q hq
  obtain rfl : r = q := by simpa [hf] using hq
  exact h

/-! ### The effects -/

/-- A receiver of nothing more: its record is an onlooker's (R42). -/
theorem demoteReceiver_verdictInv (s : State) : (demoteReceiver s).VerdictInv := by
  intro r hr hrole
  obtain ⟨q, -, rfl⟩ : ∃ q, s.frame = some q ∧ { q with role := q.role.demote } = r := by simpa using hr
  cases hq : q.role <;> simp [hq, Role.demote] at hrole

theorem enterStart_tableInv {s : State} (h : s.TableInv) : (enterStart s).TableInv := by
  refine ⟨?_, h.verdict.congr (by simp)⟩
  simp [State.RosterInv, enterStart, rising, findEntry]

theorem enterFault_tableInv {s : State} (cause : FaultCause) (h : s.TableInv) : (enterFault cause s).TableInv := by
  refine ⟨by simpa [State.RosterInv] using h.roster, ?_⟩
  unfold enterFault
  split
  · exact h.verdict
  · have hd := demoteReceiver_verdictInv { s with
      mode := .fault, faultCause := cause, windowCap := none, muteWait := none, joinCondition := false }
    dsimp only
    split <;> exact hd.congr (by simp)

theorem enterMute_tableInv {s : State} (h : s.TableInv) : (enterMute s).TableInv := by
  refine ⟨by simpa [State.RosterInv] using h.roster, ?_⟩
  have hd := demoteReceiver_verdictInv { s with
    mode := .mute, muteWait := some 0, windowCap := none, joinCondition := false }
  exact hd.congr (by simp [enterMute])

theorem applyFrame_tableInv {s : State} {f : FrameFields} (hf : s.frame = none) (hs : f.sender ≠ s.address)
    (h : s.RosterInv) : (applyFrame f s).TableInv := by
  refine ⟨h.put (e := ⟨f.sender, .live, f.holding, f.demand, 0⟩) hs (by simp) ?_, .of_no_frame (by simpa using hf)⟩
  unfold applyFrame
  dsimp only
  split
  · simp
  · split <;> simp

/-- Of the record followed, the ACK over another station's frame is known: it is the one in flight, or a break's that
has no verdict. -/
theorem State.VerdictInv.followed {s : State} {r : FrameRecord} (h : s.VerdictInv) (hr : s.followed = some r)
    (hrole : r.role = .receiver) (hv : r.verdict = some .ack) : ∀ f ∈ r.fields, f.sender ≠ s.address := by
  cases ho : s.opening with
  | none => exact h r (by simpa [State.followed, ho] using hr) hrole hv
  | some o =>
    obtain rfl : o.record = r := by simpa [State.followed, ho] using hr
    cases hv

/-- The verdict is ACK only where the fields name another station (R43, R46). -/
theorem judgeFrame_ack {s : State} {fields : Option FrameFields} (h : s.judgeFrame fields = .ack) :
    ∀ f ∈ fields, f.sender ≠ s.address := by
  rintro f rfl hs
  simp [State.judgeFrame, hs] at h

@[simp] theorem sampled_role (r : FrameRecord) (now : Nat) (lows : List Low) : (r.sampled now lows).role = r.role := rfl
@[simp] theorem sampled_verdict (r : FrameRecord) (now : Nat) (lows : List Low) :
    (r.sampled now lows).verdict = r.verdict := rfl
@[simp] theorem sampled_fields (r : FrameRecord) (now : Nat) (lows : List Low) :
    (r.sampled now lows).fields = r.fields := rfl

theorem followTo_verdictInv {s : State} {r : FrameRecord} (now : Nat) (lows : List Low) (h : s.VerdictInv)
    (hr : s.followed = some r) : (followTo r now lows s).VerdictInv := by
  unfold followTo
  dsimp only
  split
  · exact .of_frame (frameReaches_frame _ _ _ _) fun _ hv => judgeFrame_ack (Option.some.inj hv)
  · refine .of_frame (frameReaches_frame _ _ _ _) ?_
    dsimp only [sampled_role, sampled_verdict]
    split
    next hread =>
      simp only [Bool.and_eq_true, Option.isNone_iff_eq_none] at hread
      intro _ hv
      cases hread.2.symm.trans hv
    · exact h.followed hr

theorem endOwnFrame_tableInv {s : State} (sent : SentFrame) (out : FrameOutcome) (h : s.TableInv) :
    (endOwnFrame sent out s).TableInv := by
  have hk : (knownFrameEnd { takeOutcome out s with frame := none }).TableInv :=
    .of_no_frame h.roster (by simp) (by simp) (by simp)
  unfold endOwnFrame
  dsimp only
  split
  · exact hk.congr (by simp)
  · exact enterFault_tableInv _ hk
  · exact hk

/-- Every effect of a command keeps the roster a table and the verdicts over other stations' frames. -/
theorem tableInv_kept : Kept State.TableInv where
  port _ _ _ _ _ _ _ h := h.congr (by simp)
  timers _ _ _ _ _ h := h.congr (by simp)
  line _ _ _ _ _ h := h.congr (by simp)
  queue _ _ h := h.congr (by simp)
  demand _ _ h := by rw [setRequested_writes]; exact h.congr (by simp)
  wake _ h := enterStart_tableInv (h.congr (by simp))
  start _ h := enterStart_tableInv h
  sleep _ _ := .of_empty (by simp [enterDormant]) (by simp [enterDormant])
  isolate _ _ h := h.congr (by simp)
  fault _ _ h := enterFault_tableInv _ h
  mute _ h := enterMute_tableInv h
  member _ h := h.congr (by simp)
  serve _ _ _ h := by
    refine ⟨by simpa [State.RosterInv] using h.roster, ?_⟩
    unfold serveOutbox
    split
    · exact h.verdict
    · split
      · exact .of_no_frame rfl
      · dsimp only
        split
        · exact h.verdict.congr (by simp)
        · exact .of_no_frame rfl
    · exact .of_no_frame rfl
  ownBreak _ _ h := h.congr (by simp)
  cut _ h := by split <;> exact .of_no_frame h.roster (by simp) (by simp) rfl
  lose _ _ _ _ h :=
    ⟨by simpa [State.RosterInv] using h.roster, .of_frame (frameReaches_frame _ _ _ _) fun _ hv => by cases hv⟩
  follow _ _ hr _ h := ⟨by simpa [State.RosterInv] using h.roster, followTo_verdictInv _ _ h.verdict hr⟩
  send _ _ _ _ hrole _ h :=
    ⟨h.roster, .of_frame (frameReaches_frame _ _ _ _) fun hreceiver => by
      rw [show _ = Role.sender from hrole] at hreceiver; cases hreceiver⟩
  known _ _ _ h := .of_no_frame h.roster (by simp) (by simp) (by simp)
  apply _ _ hf hrole hv hfields h :=
    applyFrame_tableInv (by simp) (by simpa using h.verdict _ (by simp [hf]) hrole hv _ hfields)
      (by simpa [State.RosterInv] using h.roster)
  conclude _ _ _ _ _ h := endOwnFrame_tableInv _ _ h
  lapse a _ h := by
    unfold lapseEntry
    split
    · exact h
    next e he =>
      refine ⟨h.roster.put (e := { e with status := .lapsed }) ?_ (by simp) (by simp), h.verdict.congr (by simp)⟩
      rintro ha
      have hea := findEntry_address he
      rw [show a = _ from hea.symm.trans ha, h.roster.2] at he
      cases he
  remove a _ h := by
    refine ⟨⟨by simpa [removeEntry] using rising_dropEntry h.roster.1, ?_⟩, h.verdict.congr (by simp)⟩
    rw [findEntry_eq_none]
    intro e he
    obtain ⟨hmem, -⟩ : e ∈ _ ∧ ¬e.address = a := by simpa [removeEntry, dropEntry] using he
    simpa using findEntry_eq_none.1 h.roster.2 e hmem
  lift _ h := h.congr (by simp)
  ramp _ h := h.congr (by simp)
  settle _ h := h.congr (by simp)
  under _ _ h := by rw [judgeUnder_writes]; exact h.congr (by simp)
  overdraw _ _ h := h.congr (by simp)
  droop _ h := by rw [assertDroop_writes]; exact h.congr (by simp)
  recover _ h := by rw [clearDroopHold_writes]; exact h.congr (by simp)

/-- Settles O56: reset and the read event leave no peer and no frame, the lease tick keeps every address, and every
command is made of effects that keep both conditions. -/
theorem rosterStaysATable : Obligations.RosterStaysATable := by
  intro s t hr hv hs
  have ht : t.TableInv := tableInv_kept.step (fun _ h => h.congr (by simp)) ?hold ?release ?write ?tick ⟨hr, hv⟩ hs
  case hold =>
    intro s _
    rw [holdReset_eq]
    exact .of_empty rfl rfl
  case release =>
    intro s pins _ _
    rcases releaseReset_cases pins s with ⟨-, e⟩ | ⟨-, e⟩ <;> rw [e]
    · exact enterStart_tableInv (.of_empty rfl rfl)
    · exact .of_empty rfl rfl
  case write =>
    intro s h
    rw [completeWrite_eq]
    exact h.congr (by simp)
  case tick =>
    intro s h
    unfold leaseTick
    split
    · exact h
    · have hrising := rising_map (g := fun e => { e with age := advanceAge e.age }) (fun _ => rfl) h.roster.1
      have hfind := findEntry_map (g := fun e => { e with age := advanceAge e.age }) (fun _ => rfl) s.address s.replicas
      rw [h.roster.2] at hfind
      exact ⟨⟨hrising, hfind⟩, h.verdict.congr (by simp)⟩
  exact ⟨ht.roster, ht.verdict⟩

end Sys2Proof.Machine
end

section
/-! What every step keeps of causes, counts and quantities: FAULT exactly while a cause is recorded (R149), runs, counts
and ages within their ranges (R5, R6, R48, 08 section 8.2), and every current quantity within 0..255 (R1). -/

namespace Sys2Proof.Machine

/-! ### The fault cause -/

theorem State.FaultInv.congr {s t : State} (h : s.FaultInv) (e : t.mode = s.mode ∧ t.faultCause = s.faultCause) :
    t.FaultInv := by simpa [State.FaultInv, e] using h

theorem State.FaultInv.cause_none {s : State} (h : s.FaultInv) (hm : s.mode ≠ .fault) : s.faultCause = .none :=
  Decidable.not_not.1 fun hc => hm (h.2 hc)

theorem State.FaultInv.of_none {s : State} (hm : s.mode ≠ .fault) (hc : s.faultCause = .none) : s.FaultInv :=
  ⟨fun h => absurd h hm, fun h => absurd hc h⟩

/-- A state other than FAULT, entered from a state other than FAULT with the cause untouched. -/
theorem State.FaultInv.enter {s t : State} (h : s.FaultInv) (hs : s.mode ≠ .fault) (ht : t.mode ≠ .fault)
    (hc : t.faultCause = s.faultCause) : t.FaultInv := .of_none ht (hc.trans (h.cause_none hs))

theorem enterStart_faultInv (s : State) : (enterStart s).FaultInv := .of_none (by simp) (by simp [enterStart])

theorem enterFault_faultInv {s : State} {cause : FaultCause} (hc : cause ≠ .none) (h : s.FaultInv) :
    (enterFault cause s).FaultInv := by
  have hf : (enterFault cause s).faultCause = if s.mode = .fault then s.faultCause else cause := by
    unfold enterFault
    split
    · rfl
    · dsimp only; split <;> simp
  refine ⟨fun _ => ?_, fun _ => enterFault_mode cause s⟩
  rw [hf]
  split
  next hm => exact h.1 hm
  · exact hc

theorem acceptOwnFrame_faultInv {s : State} (f : FrameFields) (h : s.FaultInv) : (acceptOwnFrame f s).FaultInv := by
  rcases acceptOwnFrame_mode f s with hm | ⟨hm, -, hs⟩
  · exact h.congr (by simp [hm])
  · exact h.enter (by rcases hs with hs | hs <;> simp [hs]) (by simp [hm]) (by simp)

theorem endOwnFrame_faultInv {s : State} (sent : SentFrame) (out : FrameOutcome) (h : s.FaultInv) :
    (endOwnFrame sent out s).FaultInv := by
  have hk : (knownFrameEnd { takeOutcome out s with frame := none }).FaultInv := h.congr (by simp)
  unfold endOwnFrame
  dsimp only
  split
  · exact acceptOwnFrame_faultInv _ hk
  · exact enterFault_faultInv nofun hk
  · exact hk

theorem faultInv_kept : Kept State.FaultInv where
  port _ _ _ _ _ _ _ h := h
  timers _ _ _ _ _ h := h
  line _ _ _ _ _ h := h
  queue _ _ h := h
  demand _ _ h := by rw [setRequested_writes]; exact h
  wake _ _ := enterStart_faultInv _
  start _ _ := enterStart_faultInv _
  sleep hm h := h.enter (by simp only [State.maySleep, Bool.and_eq_true, decide_eq_true_eq] at hm; simp [hm.1.1.1])
    (by simp) (by simp [enterDormant])
  isolate _ hm h := h.enter (by rcases hm with hm | hm <;> simp [hm]) (by simp) (by simp)
  fault _ hc h := enterFault_faultInv hc h
  mute hm h := h.enter (by rintro hf; simp [hf, Mode.listening] at hm) (by simp) (by simp)
  member hm h := h.enter (by simp [hm]) (by simp) (by simp)
  serve _ _ _ h := h.congr (by simp)
  ownBreak _ _ h := h
  cut _ h := h.congr (by split <;> simp)
  lose _ _ _ _ h := h.congr (by simp)
  follow _ _ _ _ h := h.congr (by simp)
  send _ _ _ _ _ _ h := h
  known _ _ _ h := h.congr (by simp)
  apply _ _ _ _ _ _ h := h.congr (by simp)
  conclude _ _ _ _ _ h := endOwnFrame_faultInv _ _ h
  lapse _ _ h := h.congr (by simp)
  remove _ _ h := h.congr (by simp)
  lift _ h := h.congr (by simp)
  ramp _ h := h
  settle _ h := h
  under _ _ h := by rw [judgeUnder_writes]; exact h
  overdraw _ _ h := h
  droop _ h := by rw [assertDroop_writes]; exact h
  recover _ h := by rw [clearDroopHold_writes]; exact h

/-! ### The runs, counts and ages -/

theorem State.CountInv.congr {s t : State} (h : s.CountInv)
    (e : t.voidRun = s.voidRun ∧ t.settle = s.settle ∧ t.overdrawRun = s.overdrawRun ∧ t.underRun = s.underRun ∧
      t.ownAge = s.ownAge ∧ t.replicas = s.replicas) : t.CountInv := by simpa [State.CountInv, e] using h

/-- The output side restarts its counts, or leaves them (R139). -/
theorem setHolding_counts (v : Nat) (s : State) :
    ((setHolding v s).settle = 8 ∧ (setHolding v s).overdrawRun = 0 ∧ (setHolding v s).underRun = 0) ∨
    ((setHolding v s).settle = s.settle ∧ (setHolding v s).overdrawRun = s.overdrawRun ∧
      (setHolding v s).underRun = s.underRun) := by
  unfold setHolding
  split
  · exact .inr ⟨rfl, rfl, rfl⟩
  · dsimp only
    split
    · exact .inl ⟨rfl, rfl, rfl⟩
    · exact .inr ⟨rfl, rfl, rfl⟩

theorem setHolding_countInv {s : State} (v : Nat) (h : s.CountInv) : (setHolding v s).CountInv := by
  rcases setHolding_counts v s with ⟨hs, ho, hu⟩ | ⟨hs, ho, hu⟩
  · obtain ⟨hvoid, -, -, -, hage, hrep⟩ := h
    exact ⟨by simpa using hvoid, hs.le, by rw [ho]; decide, by rw [hu]; decide, by simpa using hage,
      by simpa using hrep⟩
  · exact h.congr (by simp [hs, ho, hu])

theorem recompute_countInv {s : State} (h : s.CountInv) : (recompute s).CountInv := by
  have h' : (refreshTarget s).CountInv := h
  rcases recompute_cases s with ⟨-, e⟩ | ⟨-, -, e⟩ | ⟨-, -, e⟩ <;> rw [e]
  · exact (setHolding_countInv (refreshTarget s).target h').congr (by simp [balanceYield])
  · exact h.congr (by simp)
  · exact h'

theorem rosterPass_countInv {s : State} (was : Bool) (h : s.CountInv) : (rosterPass was s).CountInv :=
  recompute_countInv (h.congr (by simp))

theorem ownPass_countInv {s : State} (before : State) (h : s.CountInv) : (ownPass before s).CountInv := by
  unfold ownPass
  split
  · exact rosterPass_countInv _ h
  · exact h

theorem entryPass_countInv {s : State} (before : State) (h : s.CountInv) : (entryPass before s).CountInv := by
  unfold entryPass
  split <;> exact recompute_countInv (h.congr (by simp))

theorem enterStart_countInv {s : State} (h : s.ownAge ≤ Config.maxAge) : (enterStart s).CountInv :=
  recompute_countInv ⟨Nat.zero_le _, Nat.le_refl _, Nat.zero_lt_succ _, Nat.zero_le _, by simpa using h, by simp⟩

theorem enterDormant_countInv {s : State} (h : s.CountInv) : (enterDormant s).CountInv := by
  obtain ⟨hvoid, -, -, -, hage, -⟩ := h
  exact recompute_countInv ⟨by simpa using hvoid, Nat.zero_le _, Nat.zero_lt_succ _, Nat.zero_le _,
    by simpa using hage, by simp⟩

theorem enterIsolated_countInv {s : State} (relearn : Bool) (h : s.CountInv) : (enterIsolated relearn s).CountInv := by
  unfold enterIsolated
  apply entryPass_countInv
  have hs : (setHolding 0 { s with
      mode := .isolated, windowCap := none, muteWait := none, joinCondition := false }).CountInv :=
    setHolding_countInv 0 (h.congr (by simp))
  split <;> exact hs.congr (by simp)

theorem enterFault_countInv {s : State} (cause : FaultCause) (h : s.CountInv) : (enterFault cause s).CountInv := by
  unfold enterFault
  split
  · exact h
  · apply entryPass_countInv
    have hs : (setHolding 0 (demoteReceiver { s with
        mode := .fault, faultCause := cause, windowCap := none, muteWait := none, joinCondition := false })).CountInv :=
      setHolding_countInv 0 (h.congr (by simp))
    split <;> exact hs.congr (by simp)

theorem enterMute_countInv {s : State} (h : s.CountInv) : (enterMute s).CountInv := by
  unfold enterMute
  apply entryPass_countInv
  have hs : (setHolding 0 (demoteReceiver { s with
      mode := .mute, muteWait := some 0, windowCap := none, joinCondition := false })).CountInv :=
    setHolding_countInv 0 (h.congr (by simp))
  exact hs.congr (by simp)

theorem enterMember_countInv {s : State} (h : s.CountInv) : (enterMember s).CountInv := by
  unfold enterMember
  dsimp only
  apply recompute_countInv
  split <;> exact h

theorem enterLearning_countInv {s : State} (carried : Nat) (h : s.CountInv) : (enterLearning carried s).CountInv := by
  have hp := ownPass_countInv s (s := { s with
      mode := .learning
      windowCap := some 0
      highTime := 0
      joinCondition := false
      censusRetry := none
      outbox := (s.outbox.cancel fun k => decide (k = .census)).put .census none }) h
  unfold enterLearning
  dsimp only
  split
  · exact hp.congr (by simp)
  · exact hp

theorem setRequested_countInv {s : State} (r : Nat) (h : s.CountInv) : (setRequested r s).CountInv := by
  unfold setRequested
  split
  · exact h
  · exact (ownPass_countInv s (s := liftSuppression { s with requested := r }) h).congr (by simp)

theorem acceptOwnFrame_countInv {s : State} (f : FrameFields) (h : s.CountInv) : (acceptOwnFrame f s).CountInv := by
  have h1 : State.CountInv { s with ownAge := 0, renewTimer := .running 0 } := by
    obtain ⟨hvoid, hset, hover, hunder, -, hrep⟩ := h
    exact ⟨hvoid, hset, hover, hunder, Nat.zero_le _, hrep⟩
  unfold acceptOwnFrame
  dsimp only
  split
  · exact h1
  · exact h1
  · split
    · have hs := setHolding_countInv f.holding h1
      apply recompute_countInv
      split <;> exact hs.congr (by simp)
    · exact h1
  · split
    · exact enterLearning_countInv _ h1
    · exact h1

theorem endOwnFrame_countInv {s : State} (sent : SentFrame) (out : FrameOutcome) (h : s.CountInv) :
    (endOwnFrame sent out s).CountInv := by
  have hk : (knownFrameEnd { takeOutcome out s with frame := none }).CountInv :=
    h.congr (by simp)
  unfold endOwnFrame
  dsimp only
  split
  · exact acceptOwnFrame_countInv _ hk
  · exact enterFault_countInv _ hk
  · exact hk

/-- A written entry is as old as it says, and the others stay (R10). -/
theorem State.CountInv.put {s t : State} {e : Entry} (h : s.CountInv) (he : e.age ≤ Config.maxAge)
    (ht : t = { s with replicas := putEntry e s.replicas, latch := t.latch }) : t.CountInv := by
  obtain ⟨hvoid, hset, hover, hunder, hage, hrep⟩ := h
  rw [ht]
  refine ⟨hvoid, hset, hover, hunder, hage, fun x hx => ?_⟩
  rcases mem_putEntry hx with rfl | hx
  · exact he
  · exact hrep x hx

theorem applyFrame_countInv {s : State} (f : FrameFields) (h : s.CountInv) : (applyFrame f s).CountInv := by
  have hw : State.CountInv { s with replicas := putEntry ⟨f.sender, .live, f.holding, f.demand, 0⟩ s.replicas } :=
    h.put (e := ⟨f.sender, .live, f.holding, f.demand, 0⟩) (Nat.zero_le _) rfl
  unfold applyFrame
  dsimp only
  split
  · exact rosterPass_countInv _ hw
  · split
    · exact hw
    · exact rosterPass_countInv _ hw

theorem lapseEntry_countInv {s : State} (a : Address) (h : s.CountInv) : (lapseEntry a s).CountInv := by
  unfold lapseEntry
  split
  · exact h
  next e he =>
    have hrep : ∀ x ∈ s.replicas, x.age ≤ Config.maxAge := h.2.2.2.2.2
    exact rosterPass_countInv _ (h.put (e := { e with status := .lapsed }) (hrep e (findEntry_mem he)) rfl)

theorem removeEntry_countInv {s : State} (a : Address) (h : s.CountInv) : (removeEntry a s).CountInv := by
  apply rosterPass_countInv
  obtain ⟨hvoid, hset, hover, hunder, hage, hrep⟩ := h
  exact ⟨hvoid, hset, hover, hunder, hage, fun x hx => hrep x (List.mem_of_mem_filter hx)⟩

theorem voidRunAfter_le (run : Nat) (v : Verdict) : voidRunAfter run v ≤ Config.maxVoidRun := by
  cases v <;> simp [voidRunAfter]

theorem followTo_countInv {s : State} (r : FrameRecord) (now : Nat) (lows : List Low) (h : s.CountInv) :
    (followTo r now lows s).CountInv := by
  unfold followTo
  dsimp only
  split
  · obtain ⟨-, hset, hover, hunder, hage, hrep⟩ := h
    exact ⟨voidRunAfter_le _ _, hset, hover, hunder, hage, hrep⟩
  · exact h

theorem judgeUnder_countInv {s : State} (code : Nat) (h : s.CountInv) : (judgeUnder code s).CountInv := by
  obtain ⟨hvoid, hset, hover, hunder, hage, hrep⟩ := h
  have hrun : (judgeUnder code s).underRun ≤ Config.underSamples := by
    unfold judgeUnder
    split
    · exact hunder
    · split
      · dsimp only
        split <;> exact Nat.min_le_left _ _
      · exact Nat.zero_le _
  rw [judgeUnder_writes]
  exact ⟨hvoid, hset, hover, hrun, hage, hrep⟩

theorem assertDroop_countInv {s : State} (h : s.CountInv) : (assertDroop s).CountInv := by
  have hs : (setHolding 0 { s with
      supplyLow := true
      droopHold := true
      recovery := none
      outbox := (s.outbox.cancel fun k => decide (k = .claim)).put .claim none }).CountInv :=
    setHolding_countInv 0 (h.congr (by simp))
  have hann : ∀ {t : State}, t.CountInv → (announceDemand s t).CountInv := fun ht =>
    ht.congr (by simp)
  unfold assertDroop
  refine hann (ownPass_countInv s ?_)
  split <;> exact hs.congr (by simp)

theorem clearDroopHold_countInv {s : State} (h : s.CountInv) : (clearDroopHold s).CountInv := by
  unfold clearDroopHold
  exact (entryPass_countInv s (s := { s with droopHold := false, recovery := none }) h).congr (by simp)

theorem countInv_kept : Kept State.CountInv where
  port _ _ _ _ _ _ _ h := h
  timers _ _ _ _ _ h := h
  line _ _ _ _ _ h := h
  queue _ _ h := h
  demand _ _ h := setRequested_countInv _ h
  wake _ _ := enterStart_countInv (Nat.zero_le _)
  start _ h := enterStart_countInv h.2.2.2.2.1
  sleep _ h := enterDormant_countInv h
  isolate _ _ h := enterIsolated_countInv _ h
  fault _ _ h := enterFault_countInv _ h
  mute _ h := enterMute_countInv h
  member _ h := enterMember_countInv h
  serve _ _ _ h := h.congr (by simp)
  ownBreak _ _ h := h
  cut _ h := by split <;> exact h.congr (by simp)
  lose _ _ _ _ h := h.congr (by simp)
  follow _ _ _ _ h := followTo_countInv _ _ _ h
  send _ _ _ _ _ _ h := h
  known _ _ _ h := h.congr (by simp)
  apply _ _ _ _ _ _ h := applyFrame_countInv _ (h.congr (by simp))
  conclude _ _ _ _ _ h := endOwnFrame_countInv _ _ h
  lapse _ _ h := lapseEntry_countInv _ h
  remove _ _ h := removeEntry_countInv _ h
  lift _ h := recompute_countInv h
  ramp _ h := by
    obtain ⟨hvoid, -, -, -, hage, hrep⟩ := h
    exact ⟨hvoid, Nat.le_refl _, Nat.zero_lt_succ _, Nat.zero_le _, hage, hrep⟩
  settle _ h := by
    obtain ⟨hvoid, hset, hover, hunder, hage, hrep⟩ := h
    exact ⟨hvoid, (Nat.sub_le _ _).trans hset, hover, hunder, hage, hrep⟩
  under _ _ h := judgeUnder_countInv _ h
  overdraw _ hn h := by
    obtain ⟨hvoid, hset, -, hunder, hage, hrep⟩ := h
    exact ⟨hvoid, hset, hn, hunder, hage, hrep⟩
  droop _ h := assertDroop_countInv h
  recover _ h := clearDroopHold_countInv h

theorem reset_countInv : State.reset.CountInv :=
  ⟨Nat.zero_le _, Nat.zero_le _, by decide, Nat.zero_le _, Nat.zero_le _, nofun⟩

theorem leaseTick_countInv {s : State} (h : s.CountInv) : (leaseTick s).CountInv := by
  unfold leaseTick
  split
  · exact h
  · obtain ⟨hvoid, hset, hover, hunder, -, -⟩ := h
    refine ⟨hvoid, hset, hover, hunder, Nat.min_le_left _ _, fun x hx => ?_⟩
    obtain ⟨e, -, rfl⟩ := List.mem_map.1 hx
    exact Nat.min_le_left _ _

/-! ### The current quantities: what a frame and a target can carry -/

theorem bitsValue_snoc (bits : List Bool) (b : Bool) : bitsValue (bits ++ [b]) = 2 * bitsValue bits + b.toNat := by
  simp [bitsValue]

theorem bitsValue_lt (bits : List Bool) : bitsValue bits < 2 ^ bits.length := by
  induction bits using List.reverseRecOn with
  | nil => decide
  | append_singleton bits b ih =>
    have := b.toNat_lt
    rw [bitsValue_snoc, List.length_append, List.length_singleton, pow_succ]
    omega

/-- A byte's worth of marks spells a quantity (R1, R174). -/
theorem bitsValue_take_le (bits : List Bool) : bitsValue (bits.take 8) ≤ Config.maxUnits := by
  have hlt := bitsValue_lt (bits.take 8)
  have hlen : 2 ^ (bits.take 8).length ≤ 2 ^ 8 := Nat.pow_le_pow_right (by decide) (List.length_take_le 8 bits)
  exact Nat.le_of_lt_succ (hlt.trans_le hlen)

theorem decodeMarks_units {marks : List Mark} {f : FrameFields} (h : decodeMarks marks = some f) :
    f.holding ≤ Config.maxUnits ∧ f.demand ≤ Config.maxUnits := by
  unfold decodeMarks at h
  dsimp only at h
  split at h
  · cases h
  · split at h
    · cases h
    · cases h
      exact ⟨bitsValue_take_le _, bitsValue_take_le _⟩

theorem FrameRecord.fields_units {r : FrameRecord} {f : FrameFields} (h : r.fields = some f) :
    f.holding ≤ Config.maxUnits ∧ f.demand ≤ Config.maxUnits := by
  unfold FrameRecord.fields at h
  split at h
  · cases h
  · exact decodeMarks_units h

/-- A target stands at the address of a member of W and does not exceed its demand (R29). -/
theorem dealTargets_le {level r : Nat} {w : List Entry} {p : Address × Nat} (h : p ∈ dealTargets level r w) :
    ∃ e ∈ w, e.address = p.1 ∧ p.2 ≤ e.demand := by
  induction w generalizing r with
  | nil => cases h
  | cons x xs ih =>
    have tail : ∀ {n : Nat} {q : Nat}, q ≤ x.demand → p = (x.address, q) ∨ p ∈ dealTargets level n xs →
        ∃ e ∈ x :: xs, e.address = p.1 ∧ p.2 ≤ e.demand := by
      rintro n q hq (rfl | h)
      · exact ⟨x, by simp, rfl, hq⟩
      · obtain ⟨e, he, ha⟩ := ih h
        exact ⟨e, List.mem_cons_of_mem _ he, ha⟩
    simp only [dealTargets] at h
    split at h
    next hl =>
      split at h
      · exact tail hl (List.mem_cons.1 h)
      · exact tail hl.le (List.mem_cons.1 h)
    · exact tail (Nat.le_refl _) (List.mem_cons.1 h)

theorem fairTargets_le {b : Nat} {l : List Entry} {p : Address × Nat} (h : p ∈ fairTargets b l) :
    ∃ e ∈ wanting l, e.address = p.1 ∧ p.2 ≤ e.demand := by
  unfold fairTargets at h
  split at h
  · cases h
  · exact dealTargets_le h

theorem targetAt_le {b n : Nat} {l : List Entry} (h : ∀ e ∈ l, e.demand ≤ n) (a : Address) : targetAt b l a ≤ n := by
  unfold targetAt
  split
  next p hp =>
    obtain ⟨e, he, -, hle⟩ := fairTargets_le (List.mem_of_find?_eq_some hp)
    exact hle.trans (h e (List.mem_of_mem_filter he))
  · exact Nat.zero_le n

theorem advertised_le (s : State) : s.advertised ≤ s.requested := by
  unfold State.advertised
  split
  · exact Nat.le_refl _
  · exact Nat.zero_le _

theorem fairTarget_le {s : State} (hd : s.requested ≤ Config.maxUnits)
    (hr : ∀ e ∈ s.replicas, e.holding ≤ Config.maxUnits ∧ e.demand ≤ Config.maxUnits) :
    s.fairTarget ≤ Config.maxUnits := by
  apply targetAt_le
  intro e he
  unfold State.roster at he
  split at he
  · rcases mem_putEntry he with rfl | he
    · exact (advertised_le s).trans hd
    · exact (hr e he).2
  · cases he

theorem ceiling_le (s : State) : s.ceiling ≤ Config.maxUnits :=
  (Nat.min_le_left _ _).trans (Nat.le_of_lt_succ s.record.b2.isLt)

/-! ### The current quantities -/

/-- The frame that the station sends, if it sends one, carries a quantity (R40). -/
def State.SentUnits (s : State) : Prop := ∀ r ∈ s.followed, ∀ f ∈ r.sent, f.fields.holding ≤ Config.maxUnits

theorem State.SentUnits.congr {s t : State} (h : s.SentUnits) (e : t.opening = s.opening ∧ t.frame = s.frame) :
    t.SentUnits := by simpa [State.SentUnits, State.followed, e] using h

theorem State.SentUnits.of_none {s : State} (ho : s.opening = none) (hf : s.frame = none) : s.SentUnits := by
  simp [State.SentUnits, State.followed, ho, hf]

theorem State.UnitInv.congr {s t : State} (h : s.UnitInv)
    (e : t.requested = s.requested ∧ t.target = s.target ∧ t.holding = s.holding ∧ t.level = s.level ∧
      t.rampTarget = s.rampTarget ∧ t.replicas = s.replicas ∧ t.opening = s.opening ∧ t.frame = s.frame) :
    t.UnitInv := by simpa [State.UnitInv, State.followed, e] using h

/-- The line changes; the frame that it leaves to be sent is told. -/
theorem State.UnitInv.line {s t : State} (h : s.UnitInv)
    (e : t.requested = s.requested ∧ t.target = s.target ∧ t.holding = s.holding ∧ t.level = s.level ∧
      t.rampTarget = s.rampTarget ∧ t.replicas = s.replicas) (ht : t.SentUnits) : t.UnitInv := by
  obtain ⟨hr, ht', hh, hl, hramp, hrep, -⟩ := h
  obtain ⟨er, et, eh, el, eramp, erep⟩ := e
  exact ⟨er ▸ hr, et ▸ ht', eh ▸ hh, el ▸ hl, eramp ▸ hramp, erep ▸ hrep, ht⟩

theorem State.UnitInv.sent {s : State} (h : s.UnitInv) : s.SentUnits := h.2.2.2.2.2.2

theorem State.UnitInv.replicas {s : State} (h : s.UnitInv) :
    ∀ e ∈ s.replicas, e.holding ≤ Config.maxUnits ∧ e.demand ≤ Config.maxUnits := h.2.2.2.2.2.1

theorem setHolding_unitInv {s : State} {v : Nat} (hv : v ≤ Config.maxUnits) (h : s.UnitInv) :
    (setHolding v s).UnitInv := by
  obtain ⟨hr, ht, hh, hl, hramp, hrep, hsent⟩ := h
  unfold setHolding
  split
  · exact ⟨hr, ht, hh, hl, hramp, hrep, hsent⟩
  · dsimp only
    split
    · exact ⟨hr, ht, hv, hv, hv, hrep, hsent⟩
    · exact ⟨hr, ht, hv, hl, hv, hrep, hsent⟩

theorem refreshTarget_unitInv {s : State} (h : s.UnitInv) : (refreshTarget s).UnitInv := by
  obtain ⟨hr, -, hh, hl, hramp, hrep, hsent⟩ := h
  exact ⟨hr, fairTarget_le hr hrep, hh, hl, hramp, hrep, hsent⟩

theorem recompute_unitInv {s : State} (h : s.UnitInv) : (recompute s).UnitInv := by
  have h' := refreshTarget_unitInv h
  have ht : s.fairTarget ≤ Config.maxUnits := h'.2.1
  rcases recompute_cases s with ⟨-, e⟩ | ⟨-, -, e⟩ | ⟨-, -, e⟩ <;> rw [e]
  · exact (setHolding_unitInv ht h').congr (by simp [balanceYield])
  · exact h'.congr (by simp)
  · exact h'

theorem rosterPass_unitInv {s : State} (was : Bool) (h : s.UnitInv) : (rosterPass was s).UnitInv :=
  recompute_unitInv (h.congr (by simp))

theorem ownPass_unitInv {s : State} (before : State) (h : s.UnitInv) : (ownPass before s).UnitInv := by
  unfold ownPass
  split
  · exact rosterPass_unitInv _ h
  · exact h

theorem entryPass_unitInv {s : State} (before : State) (h : s.UnitInv) : (entryPass before s).UnitInv := by
  unfold entryPass
  split
  · exact recompute_unitInv (h.congr (by simp))
  · exact recompute_unitInv h

theorem enterStart_unitInv {s : State} (h : s.UnitInv) : (enterStart s).UnitInv := by
  obtain ⟨hr, ht, -, -, -, -, hsent⟩ := h
  have hsent' : s.SentUnits := hsent
  apply recompute_unitInv
  exact ⟨by simpa using hr, by simpa using ht, by simp, Nat.zero_le _, Nat.zero_le _, nofun, hsent'.congr (by simp)⟩

theorem enterDormant_unitInv {s : State} (h : s.UnitInv) : (enterDormant s).UnitInv := by
  obtain ⟨hr, ht, -, -, -, -, -⟩ := h
  apply recompute_unitInv
  exact ⟨by simpa using hr, by simpa using ht, by simp, Nat.zero_le _, Nat.zero_le _, nofun, State.SentUnits.of_none rfl rfl⟩

theorem enterIsolated_unitInv {s : State} (relearn : Bool) (h : s.UnitInv) : (enterIsolated relearn s).UnitInv := by
  unfold enterIsolated
  apply entryPass_unitInv
  have hs : (setHolding 0 { s with
      mode := .isolated, windowCap := none, muteWait := none, joinCondition := false }).UnitInv :=
    setHolding_unitInv (Nat.zero_le _) (h.congr (by simp))
  split <;> exact hs.congr (by simp)

/-- A receiver that becomes an onlooker sends what it sent. -/
theorem demoteReceiver_sentUnits {s : State} (h : s.SentUnits) : (demoteReceiver s).SentUnits := by
  intro r hr
  cases ho : s.opening with
  | some o =>
    obtain rfl : ({ o with role := o.role.demote } : Opening).record = r := by
      simpa [State.followed, ho] using hr
    exact h o.record (by simp [State.followed, ho])
  | none =>
    obtain ⟨q, hq, rfl⟩ : ∃ q, s.frame = some q ∧ { q with role := q.role.demote } = r := by
      simpa [State.followed, ho] using hr
    exact h q (by simp [State.followed, ho, hq])

theorem enterFault_unitInv {s : State} (cause : FaultCause) (h : s.UnitInv) : (enterFault cause s).UnitInv := by
  unfold enterFault
  split
  · exact h
  · apply entryPass_unitInv
    have hd : (demoteReceiver { s with
        mode := .fault, faultCause := cause, windowCap := none, muteWait := none, joinCondition := false }).UnitInv :=
      h.line (by simp) (demoteReceiver_sentUnits (h.sent.congr (by simp)))
    have hs := setHolding_unitInv (Nat.zero_le _) hd
    split <;> exact hs.congr (by simp)

theorem enterMute_unitInv {s : State} (h : s.UnitInv) : (enterMute s).UnitInv := by
  unfold enterMute
  apply entryPass_unitInv
  have hd : (demoteReceiver { s with
      mode := .mute, muteWait := some 0, windowCap := none, joinCondition := false }).UnitInv :=
    h.line (by simp) (demoteReceiver_sentUnits (h.sent.congr (by simp)))
  exact (setHolding_unitInv (Nat.zero_le _) hd).congr (by simp)

theorem enterMember_unitInv {s : State} (h : s.UnitInv) : (enterMember s).UnitInv := by
  unfold enterMember
  dsimp only
  apply recompute_unitInv
  split <;> exact h.congr (by simp)

theorem enterLearning_unitInv {s : State} (carried : Nat) (h : s.UnitInv) : (enterLearning carried s).UnitInv := by
  have hp := ownPass_unitInv s (s := { s with
      mode := .learning
      windowCap := some 0
      highTime := 0
      joinCondition := false
      censusRetry := none
      outbox := (s.outbox.cancel fun k => decide (k = .census)).put .census none }) (h.congr (by simp))
  unfold enterLearning
  dsimp only
  split
  · exact hp.congr (by simp)
  · exact hp

theorem setRequested_unitInv {s : State} {r : Nat} (hr : r ≤ s.ceiling) (h : s.UnitInv) : (setRequested r s).UnitInv := by
  unfold setRequested
  split
  · exact h
  · have hreq : (liftSuppression { s with requested := r }).UnitInv := by
      obtain ⟨-, ht, hh, hl, hramp, hrep, hsent⟩ := h
      exact ⟨hr.trans (ceiling_le s), ht, hh, hl, hramp, hrep, hsent⟩
    exact (ownPass_unitInv s hreq).congr (by simp)

theorem acceptOwnFrame_unitInv {s : State} {f : FrameFields} (hf : f.holding ≤ Config.maxUnits) (h : s.UnitInv) :
    (acceptOwnFrame f s).UnitInv := by
  have h1 : State.UnitInv { s with ownAge := 0, renewTimer := .running 0 } := h.congr (by simp)
  unfold acceptOwnFrame
  dsimp only
  split
  · exact h1
  · exact h1
  · split
    · have hs := setHolding_unitInv hf h1
      apply recompute_unitInv
      split <;> exact hs.congr (by simp)
    · exact h1.congr (by simp)
  · split
    · exact enterLearning_unitInv _ h1
    · exact h1

/-- The own frame at its end: no frame is left, and what was sent was a quantity. -/
theorem endOwnFrame_unitInv {s : State} {r : FrameRecord} {sent : SentFrame} (out : FrameOutcome)
    (ho : s.opening = none) (hf : s.frame = some r) (hsent : r.sent = some sent) (h : s.UnitInv) :
    (endOwnFrame sent out s).UnitInv := by
  have hfields : sent.fields.holding ≤ Config.maxUnits := h.sent r (by simp [State.followed, ho, hf]) sent hsent
  have hk : (knownFrameEnd { takeOutcome out s with frame := none }).UnitInv :=
    h.line (by simp) (.of_none (by simpa using ho) (by simp))
  unfold endOwnFrame
  dsimp only
  split
  · exact acceptOwnFrame_unitInv hfields hk
  · exact enterFault_unitInv _ hk
  · exact hk

/-- Peers' entries change to what are quantities again. -/
theorem State.UnitInv.table {s t : State} (h : s.UnitInv)
    (e : t.requested = s.requested ∧ t.target = s.target ∧ t.holding = s.holding ∧ t.level = s.level ∧
      t.rampTarget = s.rampTarget ∧ t.opening = s.opening ∧ t.frame = s.frame)
    (hr : ∀ x ∈ t.replicas, x.holding ≤ Config.maxUnits ∧ x.demand ≤ Config.maxUnits) : t.UnitInv := by
  have hs := h.sent.congr (t := t) ⟨e.2.2.2.2.2.1, e.2.2.2.2.2.2⟩
  obtain ⟨hreq, ht, hh, hl, hramp, -⟩ := h
  obtain ⟨er, et, eh, el, eramp, -⟩ := e
  exact ⟨er ▸ hreq, et ▸ ht, eh ▸ hh, el ▸ hl, eramp ▸ hramp, hr, hs⟩

theorem applyFrame_unitInv {s : State} {f : FrameFields}
    (hf : f.holding ≤ Config.maxUnits ∧ f.demand ≤ Config.maxUnits) (h : s.UnitInv) : (applyFrame f s).UnitInv := by
  have hput : ∀ x ∈ putEntry ⟨f.sender, .live, f.holding, f.demand, 0⟩ s.replicas,
      x.holding ≤ Config.maxUnits ∧ x.demand ≤ Config.maxUnits := by
    intro x hx
    rcases mem_putEntry hx with rfl | hx
    · exact hf
    · exact h.replicas x hx
  have hw : State.UnitInv { s with replicas := putEntry ⟨f.sender, .live, f.holding, f.demand, 0⟩ s.replicas } :=
    h.table (by simp) hput
  unfold applyFrame
  dsimp only
  split
  · exact rosterPass_unitInv _ (hw.congr (by simp))
  · split
    · exact hw
    · exact rosterPass_unitInv _ hw

theorem lapseEntry_unitInv {s : State} (a : Address) (h : s.UnitInv) : (lapseEntry a s).UnitInv := by
  unfold lapseEntry
  split
  · exact h
  next e he =>
    refine rosterPass_unitInv _ (h.table (by simp) fun x hx => ?_)
    rcases mem_putEntry hx with rfl | hx
    · exact h.replicas e (findEntry_mem he)
    · exact h.replicas x hx

theorem removeEntry_unitInv {s : State} (a : Address) (h : s.UnitInv) : (removeEntry a s).UnitInv :=
  rosterPass_unitInv _ (h.table (by simp) fun x hx => h.replicas x (List.mem_of_mem_filter hx))

theorem assertDroop_unitInv {s : State} (h : s.UnitInv) : (assertDroop s).UnitInv := by
  have hs : (setHolding 0 { s with
      supplyLow := true
      droopHold := true
      recovery := none
      outbox := (s.outbox.cancel fun k => decide (k = .claim)).put .claim none }).UnitInv :=
    setHolding_unitInv (Nat.zero_le _) (h.congr (by simp))
  have hann : ∀ {t : State}, t.UnitInv → (announceDemand s t).UnitInv := fun ht => ht.congr (by simp)
  unfold assertDroop
  refine hann (ownPass_unitInv s ?_)
  split <;> exact hs.congr (by simp)

theorem clearDroopHold_unitInv {s : State} (h : s.UnitInv) : (clearDroopHold s).UnitInv := by
  unfold clearDroopHold
  exact (entryPass_unitInv s (s := { s with droopHold := false, recovery := none }) (h.congr (by simp))).congr (by simp)

/-- What a break of the station's own sends is its holding, or as a CLAIM at most its target (R35, R40). -/
theorem ownFields_holding_le {s : State} (h : s.UnitInv) (k : Kind) : (s.ownFields k).holding ≤ Config.maxUnits := by
  obtain ⟨-, ht, hh, -⟩ := h
  unfold State.ownFields
  dsimp only
  split
  · unfold State.claimAmount
    omega
  · exact hh

theorem beginBreak_unitInv {s : State} (k : Kind) (h : s.UnitInv) : (beginBreak k s).UnitInv := by
  refine h.line (by simp) ?_
  intro r hr f hf
  obtain rfl : Opening.record ⟨.sender, some (sealFrame (s.ownFields k)), 0⟩ = r := by
    simpa [State.followed] using hr
  obtain rfl : sealFrame (s.ownFields k) = f := Option.some.inj hf
  exact ownFields_holding_le h k

theorem serveOutbox_unitInv {s : State} (h : s.UnitInv) : (serveOutbox s).UnitInv := by
  have hw : (withdrawClaim s).UnitInv := h.congr (by simp)
  unfold serveOutbox
  split
  · exact h
  · split
    · exact beginBreak_unitInv _ h
    · dsimp only
      split
      · exact hw
      · exact beginBreak_unitInv _ hw
  · exact beginBreak_unitInv _ h

/-- A frame on its way carries what the record of it says was sent. -/
theorem State.SentUnits.of_frame {s t : State} {r r' : FrameRecord} (h : s.SentUnits) (hr : s.followed = some r)
    (ho : t.opening = none) (hf : t.frame = some r') (hs : r'.sent = r.sent) : t.SentUnits := by
  intro q hq
  obtain rfl : r' = q := by simpa [State.followed, ho, hf] using hq
  rw [hs]
  exact h r hr

theorem unitInv_kept : Kept State.UnitInv where
  port _ _ _ _ _ _ _ h := h
  timers _ _ _ _ _ h := h
  line _ _ _ _ _ h := h
  queue _ _ h := h
  demand _ hr h := setRequested_unitInv hr h
  wake _ h := enterStart_unitInv (h.congr (by simp))
  start _ h := enterStart_unitInv h
  sleep _ h := enterDormant_unitInv h
  isolate _ _ h := enterIsolated_unitInv _ h
  fault _ _ h := enterFault_unitInv _ h
  mute _ h := enterMute_unitInv h
  member _ h := enterMember_unitInv h
  serve _ _ _ h := serveOutbox_unitInv h
  ownBreak _ ho h := by
    refine h.line (by simp) ?_
    intro r hr
    obtain rfl := Option.some.inj hr
    exact h.sent _ (by simp only [State.followed, ho]; rfl)
  cut _ h := by
    refine h.line (by split <;> simp) ?_
    intro r hr f hf
    obtain rfl := Option.some.inj hr
    cases hf
  lose _ _ _ _ h := by
    refine h.line (by simp) ?_
    intro r hr f hf
    obtain rfl := Option.some.inj hr
    cases hf
  follow now lows hr _ h := by
    obtain ⟨r', hf, -, -, hs, ho⟩ := followTo_frame _ now lows _
    exact h.line (by simp) (h.sent.of_frame hr ho hf hs)
  send _ _ hr _ _ hs h := h.line (by simp) (h.sent.of_frame hr rfl rfl hs)
  known ho _ _ h := h.line (by simp) (.of_none (by simpa using ho) (by simp))
  apply _ ho _ _ _ hfields h :=
    applyFrame_unitInv (FrameRecord.fields_units hfields) (h.line (by simp) (.of_none (by simpa using ho) (by simp)))
  conclude out ho hf _ hsent h := endOwnFrame_unitInv out ho hf hsent h
  lapse _ _ h := lapseEntry_unitInv _ h
  remove _ _ h := removeEntry_unitInv _ h
  lift _ h := recompute_unitInv (h.congr (by simp))
  ramp hd h := by
    simp only [State.rampDue, Bool.and_eq_true, decide_eq_true_eq] at hd
    obtain ⟨hr, ht, hh, -, hramp, hrep, hsent⟩ := h
    exact ⟨hr, ht, hh, le_trans hd.2 hramp, hramp, hrep, hsent⟩
  settle _ h := h
  under _ _ h := by rw [judgeUnder_writes]; exact h
  overdraw _ _ h := h
  droop _ h := assertDroop_unitInv h
  recover _ h := clearDroopHold_unitInv h

/-! ### Every step -/

theorem reset_unitInv : State.reset.UnitInv :=
  ⟨Nat.zero_le _, Nat.zero_le _, Nat.zero_le _, Nat.zero_le _, Nat.zero_le _, nofun, State.SentUnits.of_none rfl rfl⟩

theorem leaseTick_unitInv {s : State} (h : s.UnitInv) : (leaseTick s).UnitInv := by
  unfold leaseTick
  split
  · exact h
  · refine h.table (by simp) fun x hx => ?_
    obtain ⟨e, he, rfl⟩ := List.mem_map.1 hx
    exact h.replicas e he

/-- Settles O57: each of the three conditions holds at reset and at the read event, is kept by the lease tick, and is
kept by every effect that a command is made of. -/
theorem causesCountsAndQuantitiesStayLegal : Obligations.CausesCountsAndQuantitiesStayLegal := by
  intro s t hs
  refine ⟨fun h => faultInv_kept.step (fun _ h => h) ?faultHold ?faultRelease ?faultWrite ?faultTick h hs,
    fun h => countInv_kept.step (fun _ h => h) ?countHold ?countRelease ?countWrite leaseTick_countInv h hs,
    fun h => unitInv_kept.step (fun _ h => h) ?unitHold ?unitRelease ?unitWrite leaseTick_unitInv h hs⟩
  case faultHold => intro s _; rw [holdReset_eq]; exact .of_none nofun rfl
  case countHold => intro s _; rw [holdReset_eq]; exact reset_countInv
  case unitHold => intro s _; rw [holdReset_eq]; exact reset_unitInv
  case faultWrite => intro s h; rw [completeWrite_eq]; exact h
  case countWrite => intro s h; rw [completeWrite_eq]; exact h
  case unitWrite => intro s h; rw [completeWrite_eq]; exact h
  case faultTick => intro s h; exact h.congr (by unfold leaseTick; split <;> simp)
  case faultRelease =>
    intro s pins _ _
    rcases releaseReset_cases pins s with ⟨-, e⟩ | ⟨-, e⟩ <;> rw [e]
    · exact enterStart_faultInv _
    · exact .of_none nofun rfl
  case countRelease =>
    intro s pins _ _
    rcases releaseReset_cases pins s with ⟨-, e⟩ | ⟨-, e⟩ <;> rw [e]
    · exact enterStart_countInv (Nat.zero_le _)
    · exact reset_countInv
  case unitRelease =>
    intro s pins _ _
    rcases releaseReset_cases pins s with ⟨-, e⟩ | ⟨-, e⟩ <;> rw [e]
    · exact enterStart_unitInv reset_unitInv
    · exact reset_unitInv

end Sys2Proof.Machine
end

section
/-! What every step keeps of the outbox: attempt counts below 8 (R90), an intent in flight exactly while a frame of the
station's own is on the line (R84), and never both a break and a frame's record (R72). Most operations only queue, merge,
remove or cancel: they keep the counts and leave an intent in flight where one was (`Outbox.Orderly`). An intent leaves
flight with the own frame, at its outcome, and enters flight with a break of the station's own. -/

namespace Sys2Proof.Machine

/-! ### The attempt counts -/

/-- Every attempt count is below 8, waiting or in flight. -/
def Outbox.CountsLegal (o : Outbox) : Prop :=
  (∀ k, attemptsBelowLimit (o.get k)) ∧ ∀ f ∈ o.inFlight, f.intent.attempts < Config.maxAttempts

theorem outboxInv_iff {s : State} :
    s.OutboxInv ↔ s.outbox.CountsLegal ∧ s.outbox.inFlight.isSome = s.sending ∧ (s.opening = none ∨ s.frame = none) := by
  constructor
  · rintro ⟨hy, hr, hc, hs, hf, hsend, hone⟩
    exact ⟨⟨fun k => by cases k <;> assumption, hf⟩, hsend, hone⟩
  · rintro ⟨⟨hk, hf⟩, hsend, hone⟩
    exact ⟨hk .yield, hk .renew, hk .claim, hk .census, hf, hsend, hone⟩

theorem attemptsBelowLimit_none : attemptsBelowLimit none := nofun

theorem attemptsBelowLimit_some {i : Intent} (h : i.attempts < Config.maxAttempts) : attemptsBelowLimit (some i) := by
  rintro x ⟨rfl⟩
  exact h

/-- A queued intent starts at 0 or keeps its count (R85). -/
theorem attemptsBelowLimit_merge {i : Option Intent} (h : attemptsBelowLimit i) : attemptsBelowLimit (mergeQueued i) := by
  cases i with
  | none => exact attemptsBelowLimit_some (Nat.zero_lt_succ _)
  | some j => exact attemptsBelowLimit_some (h j rfl)

theorem Outbox.CountsLegal.put {o : Outbox} {i : Option Intent} (h : o.CountsLegal) (k : Kind)
    (hi : attemptsBelowLimit i) : (o.put k i).CountsLegal := by
  refine ⟨fun j => ?_, by simpa using h.2⟩
  by_cases hj : j = k
  · subst hj; simpa using hi
  · rw [Outbox.get_put_of_ne hj]; exact h.1 j

/-! ### Queuing, removing and cancelling -/

/-- From the outbox `o` to `o'` the counts stay legal, and an intent is in flight as before. -/
structure Outbox.Orderly (o o' : Outbox) : Prop where
  legal : o.CountsLegal → o'.CountsLegal
  flight : o'.inFlight.isSome = o.inFlight.isSome

theorem Outbox.Orderly.rfl {o : Outbox} : o.Orderly o := ⟨id, Eq.refl _⟩

theorem Outbox.Orderly.trans {o p q : Outbox} (h : o.Orderly p) (h' : p.Orderly q) : o.Orderly q :=
  ⟨h'.legal ∘ h.legal, h'.flight.trans h.flight⟩

section
variable {o o' : Outbox}

theorem Outbox.Orderly.remove (k : Kind) (h : o.Orderly o') : o.Orderly (o'.put k none) :=
  h.trans ⟨fun h => h.put k attemptsBelowLimit_none, by simp⟩

theorem Outbox.Orderly.queue (k : Kind) (h : o.Orderly o') : o.Orderly (o'.put k (mergeQueued (o'.get k))) :=
  h.trans ⟨fun h => h.put k (attemptsBelowLimit_merge (h.1 k)), by simp⟩

theorem Outbox.Orderly.cancel (p : Kind → Bool) (h : o.Orderly o') : o.Orderly (o'.cancel p) := by
  refine h.trans ⟨fun h => ⟨fun k => by simpa using h.1 k, ?_⟩, by simp⟩
  intro f hf
  obtain ⟨g, hg, rfl⟩ := Option.map_eq_some_iff.1 hf
  have hlt := h.2 g hg
  split <;> exact hlt

theorem Outbox.Orderly.clear (h : o.Orderly o') : o.Orderly o'.clear :=
  h.trans ⟨fun h => ⟨fun k => by simpa using attemptsBelowLimit_none, ((Orderly.rfl.cancel fun _ => true).legal h).2⟩,
    by simp⟩

theorem Outbox.Orderly.keepYield (h : o.Orderly o') : o.Orderly o'.keepYield :=
  (((h.cancel fun k => decide (k ≠ .yield)).remove .renew).remove .claim).remove .census

/-! ### What each shared operation does to the outbox -/

variable {s : State}

theorem queueIntent_orderly (k : Kind) (h : o.Orderly s.outbox) : o.Orderly (queueIntent k s).outbox := h.queue k

theorem clearOutbox_orderly (h : o.Orderly s.outbox) : o.Orderly (clearOutbox s).outbox := h.clear

theorem setHolding_orderly (v : Nat) (h : o.Orderly s.outbox) : o.Orderly (setHolding v s).outbox := by simpa using h

theorem withdrawClaim_orderly (h : o.Orderly s.outbox) : o.Orderly (withdrawClaim s).outbox := by
  unfold withdrawClaim
  dsimp only
  split
  · exact queueIntent_orderly .renew (h.remove .claim)
  · exact h.remove .claim

theorem demandNotice_orderly (h : o.Orderly s.outbox) : o.Orderly (demandNotice s).outbox := by
  unfold demandNotice
  split
  · exact h
  · split
    next i hi => exact h.trans ⟨fun h => h.put .claim (attemptsBelowLimit_some (h.1 .claim i hi)), by simp⟩
    · exact queueIntent_orderly .renew h

theorem beginOvercommit_orderly (was : Bool) (h : o.Orderly s.outbox) : o.Orderly (beginOvercommit was s).outbox := by
  unfold beginOvercommit
  split
  · exact withdrawClaim_orderly (h.cancel fun k => decide (k = .claim))
  · exact h

theorem recompute_orderly (h : o.Orderly s.outbox) : o.Orderly (recompute s).outbox := by
  rcases recompute_cases s with ⟨-, e⟩ | ⟨-, -, e⟩ | ⟨-, -, e⟩ <;> rw [e]
  · exact queueIntent_orderly .yield (setHolding_orderly _ h)
  · exact queueIntent_orderly .claim h
  · exact h

theorem rosterPass_orderly (was : Bool) (h : o.Orderly s.outbox) : o.Orderly (rosterPass was s).outbox :=
  recompute_orderly (beginOvercommit_orderly was h)

theorem ownPass_orderly (before : State) (h : o.Orderly s.outbox) : o.Orderly (ownPass before s).outbox := by
  unfold ownPass
  split
  · exact rosterPass_orderly _ h
  · exact h

theorem entryPass_orderly (before : State) (h : o.Orderly s.outbox) : o.Orderly (entryPass before s).outbox := by
  unfold entryPass
  split <;> exact recompute_orderly h

theorem announceDemand_orderly (before : State) (h : o.Orderly s.outbox) :
    o.Orderly (announceDemand before s).outbox := by
  unfold announceDemand
  split
  · exact demandNotice_orderly h
  · exact h

theorem renewOnRise_orderly (before : State) (h : o.Orderly s.outbox) : o.Orderly (renewOnRise before s).outbox := by
  unfold renewOnRise
  split
  · exact queueIntent_orderly .renew h
  · exact h

theorem knownFrameEnd_orderly (h : o.Orderly s.outbox) : o.Orderly (knownFrameEnd s).outbox := by
  unfold knownFrameEnd
  dsimp only
  split
  · exact queueIntent_orderly .census h
  · exact h

theorem setRequested_orderly (r : Nat) (h : o.Orderly s.outbox) : o.Orderly (setRequested r s).outbox := by
  unfold setRequested
  split
  · exact h
  · exact renewOnRise_orderly s (announceDemand_orderly s (ownPass_orderly s h))

theorem enterStart_orderly (h : o.Orderly s.outbox) : o.Orderly (enterStart s).outbox :=
  recompute_orderly (clearOutbox_orderly (setHolding_orderly 0 h))

theorem enterMember_orderly (h : o.Orderly s.outbox) : o.Orderly (enterMember s).outbox := by
  unfold enterMember
  apply recompute_orderly
  split
  · exact queueIntent_orderly .renew h
  · exact h

theorem enterLearning_orderly (carried : Nat) (h : o.Orderly s.outbox) :
    o.Orderly (enterLearning carried s).outbox := by
  unfold enterLearning
  dsimp only
  split
  · exact demandNotice_orderly (ownPass_orderly s ((h.cancel _).remove .census))
  · exact ownPass_orderly s ((h.cancel _).remove .census)

theorem enterIsolated_orderly (relearn : Bool) (h : o.Orderly s.outbox) :
    o.Orderly (enterIsolated relearn s).outbox := by
  unfold enterIsolated
  refine entryPass_orderly s (queueIntent_orderly .census ?_)
  split
  · exact queueIntent_orderly .yield (clearOutbox_orderly (setHolding_orderly 0 h))
  · exact clearOutbox_orderly (setHolding_orderly 0 h)

theorem enterFault_orderly (cause : FaultCause) (h : o.Orderly s.outbox) : o.Orderly (enterFault cause s).outbox := by
  unfold enterFault
  split
  · exact h
  · refine entryPass_orderly s ?_
    dsimp only [latchEvent_outbox]
    split
    · exact queueIntent_orderly .yield (Outbox.Orderly.keepYield (setHolding_orderly 0 h))
    · exact Outbox.Orderly.keepYield (setHolding_orderly 0 h)

theorem enterMute_orderly (h : o.Orderly s.outbox) : o.Orderly (enterMute s).outbox :=
  entryPass_orderly s (clearOutbox_orderly (setHolding_orderly 0 h))

theorem applyFrame_orderly (f : FrameFields) (h : o.Orderly s.outbox) : o.Orderly (applyFrame f s).outbox := by
  unfold applyFrame
  dsimp only
  split
  · exact rosterPass_orderly _ h
  · split
    · exact h
    · exact rosterPass_orderly _ h

theorem lapseEntry_orderly (a : Address) (h : o.Orderly s.outbox) : o.Orderly (lapseEntry a s).outbox := by
  unfold lapseEntry
  split
  · exact h
  · exact rosterPass_orderly _ h

theorem acceptOwnFrame_orderly (f : FrameFields) (h : o.Orderly s.outbox) : o.Orderly (acceptOwnFrame f s).outbox := by
  unfold acceptOwnFrame
  dsimp only
  split
  · exact h
  · exact h
  · split
    · refine recompute_orderly (beginOvercommit_orderly _ ?_)
      split <;> exact setHolding_orderly _ h
    · exact queueIntent_orderly .yield h
  · split
    · exact enterLearning_orderly _ h
    · exact h

theorem assertDroop_orderly (h : o.Orderly s.outbox) : o.Orderly (assertDroop s).outbox := by
  unfold assertDroop
  refine announceDemand_orderly s (ownPass_orderly s ?_)
  split
  · exact queueIntent_orderly .yield (setHolding_orderly 0 ((h.cancel _).remove .claim))
  · exact setHolding_orderly 0 ((h.cancel _).remove .claim)

theorem clearDroopHold_orderly (h : o.Orderly s.outbox) : o.Orderly (clearDroopHold s).outbox :=
  renewOnRise_orderly s (announceDemand_orderly s (entryPass_orderly s h))

end

/-! ### Outcomes -/

theorem eighthFailure_legal (k : Kind) (i : Intent) {s : State}
    (h : ∀ j, j ≠ k → attemptsBelowLimit (s.outbox.get j))
    (hf : ∀ f ∈ s.outbox.inFlight, f.intent.attempts < Config.maxAttempts) :
    (eighthFailure k i s).outbox.CountsLegal := by
  have put : ∀ x, attemptsBelowLimit x → (s.outbox.put k x).CountsLegal := by
    intro x hx
    refine ⟨fun j => ?_, by simpa using hf⟩
    by_cases hj : j = k
    · subst hj; simpa using hx
    · rw [Outbox.get_put_of_ne hj]; exact h j hj
  cases k with
  | claim =>
    have hc := put none attemptsBelowLimit_none
    unfold eighthFailure
    dsimp only
    split
    · exact (queueIntent_orderly .renew .rfl).legal hc
    · exact hc
  | census => exact put none attemptsBelowLimit_none
  | yield => exact put _ (attemptsBelowLimit_some (Nat.zero_lt_succ _))
  | renew => exact put _ (attemptsBelowLimit_some (Nat.zero_lt_succ _))

/-- At 8 the kind's handling replaces the count (R90, R92 to R94). -/
theorem returnIntent_legal (k : Kind) (i : Intent) {s : State} (h : s.outbox.CountsLegal) :
    (returnIntent k i s).outbox.CountsLegal := by
  unfold returnIntent
  dsimp only
  split
  next hlt => exact h.put k (attemptsBelowLimit_some hlt)
  · refine eighthFailure_legal k _ (fun j hj => ?_) (by simpa using h.2)
    simpa [Outbox.get_put_of_ne hj] using h.1 j

@[simp] theorem eighthFailure_inFlight (k : Kind) (i : Intent) (s : State) :
    (eighthFailure k i s).outbox.inFlight = s.outbox.inFlight := by
  cases k with
  | claim => unfold eighthFailure; dsimp only; split <;> simp
  | census => simp [eighthFailure]
  | yield => simp [eighthFailure]
  | renew => simp [eighthFailure]

@[simp] theorem returnIntent_inFlight (k : Kind) (i : Intent) (s : State) :
    (returnIntent k i s).outbox.inFlight = s.outbox.inFlight := by
  unfold returnIntent
  dsimp only
  split
  · simp
  · rw [eighthFailure_inFlight, Outbox.put_inFlight]

/-- Taking the intent out of flight and settling the covered RENEW keep the counts (R89, R95). -/
theorem Outbox.CountsLegal.land {o : Outbox} (accepted : Bool) (backoff : Bool) (h : o.CountsLegal) :
    Outbox.CountsLegal { o with
      inFlight := none, renew := settleCovered accepted o.renew, backoff := backoff } := by
  refine ⟨fun k => ?_, nofun⟩
  cases k with
  | renew =>
    show attemptsBelowLimit (settleCovered accepted o.renew)
    have hr : attemptsBelowLimit o.renew := h.1 .renew
    unfold settleCovered
    split
    · exact attemptsBelowLimit_none
    next i hi =>
      split
      · split
        · exact attemptsBelowLimit_none
        · exact attemptsBelowLimit_some (hr i hi)
      · exact attemptsBelowLimit_some (hr i hi)
  | yield => exact h.1 .yield
  | claim => exact h.1 .claim
  | census => exact h.1 .census

/-- An outcome takes the intent out of flight, and its count comes back below 8 (R89 to R94). -/
theorem takeOutcome_outbox (out : FrameOutcome) {s : State} (h : s.outbox.CountsLegal) :
    (takeOutcome out s).outbox.CountsLegal ∧ (takeOutcome out s).outbox.inFlight = none := by
  unfold takeOutcome
  split
  next hnone => exact ⟨h, hnone⟩
  · dsimp only
    split
    · exact ⟨h.land _ _, rfl⟩
    · split
      · exact ⟨h.land _ _, rfl⟩
      · exact ⟨returnIntent_legal _ _ (h.land _ _), by simp⟩
      · exact ⟨returnIntent_legal _ _ (h.land _ true), by simp⟩
      · exact ⟨returnIntent_legal _ _ (h.land _ true), by simp⟩
      · exact ⟨returnIntent_legal _ _ (h.land _ true), by simp⟩

/-! ### The outbox law -/

/-- What only queues, removes or cancels keeps the law where the line stays as it was. -/
theorem State.OutboxInv.orderly {s t : State} (h : s.OutboxInv) (ho : s.outbox.Orderly t.outbox)
    (e : t.opening = s.opening ∧ t.frame = s.frame) : t.OutboxInv := by
  obtain ⟨hlegal, hsend, hone⟩ := outboxInv_iff.1 h
  have hs : t.sending = s.sending := by simp [State.sending, e]
  exact outboxInv_iff.2 ⟨ho.legal hlegal, by rw [ho.flight, hsend, hs], by simpa [e] using hone⟩

/-- The law of a station that sends nothing. -/
theorem State.OutboxInv.of_silent {s : State} (h : s.outbox.CountsLegal) (hf : s.outbox.inFlight = none)
    (hs : s.sending = false) (hone : s.opening = none ∨ s.frame = none) : s.OutboxInv :=
  outboxInv_iff.2 ⟨h, by rw [hf, hs]; rfl, hone⟩

theorem demoteReceiver_outboxInv {s : State} (h : s.OutboxInv) : (demoteReceiver s).OutboxInv := by
  obtain ⟨hlegal, hsend, hone⟩ := outboxInv_iff.1 h
  exact outboxInv_iff.2 ⟨hlegal, by simpa using hsend, by simpa using hone⟩

/-- FAULT takes the station's receiver off the line, and nothing else (R42, R151). -/
theorem enterFault_line {s : State} (cause : FaultCause) (hm : s.mode ≠ .fault) :
    (enterFault cause s).opening = (demoteReceiver s).opening ∧ (enterFault cause s).frame = (demoteReceiver s).frame := by
  rw [enterFault, if_neg hm]
  dsimp only
  split <;> simp

theorem enterFault_outboxInv {s : State} (cause : FaultCause) (h : s.OutboxInv) : (enterFault cause s).OutboxInv := by
  by_cases hm : s.mode = .fault
  · rwa [enterFault, if_pos hm]
  · have hd := demoteReceiver_outboxInv (s := { s with
      mode := .fault, faultCause := cause, windowCap := none, muteWait := none, joinCondition := false }) h
    exact hd.orderly (enterFault_orderly cause .rfl) (enterFault_line cause hm)

theorem enterMute_outboxInv {s : State} (h : s.OutboxInv) : (enterMute s).OutboxInv := by
  have hd := demoteReceiver_outboxInv (s := { s with
    mode := .mute, muteWait := some 0, windowCap := none, joinCondition := false }) h
  exact hd.orderly (enterMute_orderly .rfl) (by simp [enterMute])

/-- SLEEP is taken with nothing in flight, and leaves nothing on the line (R132). -/
theorem enterDormant_outboxInv {s : State} (hs : s.maySleep = true) (h : s.OutboxInv) : (enterDormant s).OutboxInv := by
  have ho : s.outbox.Orderly (enterDormant s).outbox := recompute_orderly (clearOutbox_orderly (setHolding_orderly 0 .rfl))
  have hf : s.outbox.inFlight = none := by
    simp only [State.maySleep, Outbox.isEmpty, Bool.and_eq_true, Option.isNone_iff_eq_none] at hs
    exact hs.2.2
  refine .of_silent (ho.legal (outboxInv_iff.1 h).1) ?_ (by simp [State.sending, enterDormant])
    (.inl (by simp [enterDormant]))
  simpa [hf] using ho.flight

/-- Offered is what is there, of the highest rank (R87). -/
theorem Outbox.get_of_offer {o : Outbox} {k : Kind} (h : o.offer = some k) : ∃ i, o.get k = some i := by
  unfold Outbox.offer at h
  rw [← Option.isSome_iff_exists]
  split at h
  · cases h; assumption
  · split at h
    · cases h; assumption
    · split at h
      · cases h; assumption
      · split at h
        · cases h; assumption
        · cases h

theorem beginBreak_outboxInv {s : State} {k : Kind} (hk : s.outbox.offer = some k) (h : s.outbox.CountsLegal) :
    (beginBreak k s).OutboxInv := by
  obtain ⟨i, hi⟩ := Outbox.get_of_offer hk
  have hlaunch : (s.outbox.launch k).CountsLegal ∧ (s.outbox.launch k).inFlight = some ⟨k, i, false⟩ := by
    unfold Outbox.launch
    rw [hi]
    have hp := h.put k attemptsBelowLimit_none
    refine ⟨⟨fun j => ?_, ?_⟩, rfl⟩
    · cases j with
      | renew =>
        show attemptsBelowLimit (ite _ _ _)
        split
        · exact hp.1 .renew
        · rintro x hx
          obtain ⟨y, hy, rfl⟩ := Option.map_eq_some_iff.1 hx
          exact hp.1 .renew y hy
      | yield => exact hp.1 .yield
      | claim => exact hp.1 .claim
      | census => exact hp.1 .census
    · rintro f ⟨rfl⟩
      exact h.1 k i hi
  exact outboxInv_iff.2 ⟨hlaunch.1, by simp [hlaunch.2, State.sending], .inr rfl⟩

theorem serveOutbox_outboxInv {s : State} (h : s.OutboxInv) : (serveOutbox s).OutboxInv := by
  have hlegal := (outboxInv_iff.1 h).1
  have hw : s.outbox.Orderly (withdrawClaim s).outbox := withdrawClaim_orderly .rfl
  unfold serveOutbox
  split
  · exact h
  next hk =>
    split
    · exact beginBreak_outboxInv hk hlegal
    · dsimp only
      split
      · exact h.orderly hw (by simp)
      next hk' => exact beginBreak_outboxInv hk' (hw.legal hlegal)
  next hk => exact beginBreak_outboxInv hk hlegal

/-- Under the law a follower sends nothing. -/
theorem State.OutboxInv.follower {s : State} {r : FrameRecord} (h : s.OutboxInv) (hr : s.followed = some r)
    (hrole : r.role ≠ .sender) : s.sending = false := by
  obtain ⟨-, -, hone⟩ := outboxInv_iff.1 h
  cases ho : s.opening with
  | none =>
    have hf : s.frame = some r := by simpa [State.followed, ho] using hr
    simp [State.sending, ho, hf, hrole]
  | some o =>
    obtain rfl : o.record = r := by simpa [State.followed, ho] using hr
    have hf : s.frame = none := by simpa [ho] using hone
    have hrole' : o.role ≠ .sender := hrole
    simp [State.sending, ho, hf, hrole']

theorem State.OutboxInv.silent {s : State} (h : s.OutboxInv) (hs : s.sending = false) : s.outbox.inFlight = none := by
  have hsend := (outboxInv_iff.1 h).2.1
  rwa [hs, Option.isSome_eq_false_iff, Option.isNone_iff_eq_none] at hsend

/-- The end of a followed frame leaves a line without a frame, and nothing was in flight (R69). -/
theorem followedEnd_outboxInv {s : State} {r : FrameRecord} (ho : s.opening = none) (hf : s.frame = some r)
    (hrole : r.role ≠ .sender) (h : s.OutboxInv) : (knownFrameEnd { s with frame := none }).OutboxInv := by
  have hnone := h.silent (h.follower (by simp [State.followed, ho, hf]) hrole)
  have hl : State.OutboxInv { s with frame := none } :=
    .of_silent (outboxInv_iff.1 h).1 hnone (by simp [State.sending, ho]) (.inr rfl)
  exact hl.orderly (knownFrameEnd_orderly .rfl) (by simp)

/-- The end of the own frame takes its intent out of flight (R89). -/
theorem endOwnFrame_outboxInv {s : State} (sent : SentFrame) (out : FrameOutcome) (ho : s.opening = none)
    (h : s.OutboxInv) : (endOwnFrame sent out s).OutboxInv := by
  obtain ⟨hlegal, hnone⟩ := takeOutcome_outbox out (outboxInv_iff.1 h).1
  have hl : State.OutboxInv { takeOutcome out s with frame := none } :=
    .of_silent hlegal hnone (by simp [State.sending, ho]) (.inr rfl)
  have hk : (knownFrameEnd { takeOutcome out s with frame := none }).OutboxInv :=
    hl.orderly (knownFrameEnd_orderly .rfl) (by simp)
  unfold endOwnFrame
  dsimp only
  split
  · exact hk.orderly (acceptOwnFrame_orderly _ .rfl) (by simp)
  · exact enterFault_outboxInv _ hk
  · exact hk

theorem outboxInv_kept : Kept State.OutboxInv where
  port _ _ _ _ _ _ _ h := h
  timers _ _ _ _ _ h := h
  line _ _ _ _ _ h := h
  queue k _ h := h.orderly (queueIntent_orderly k .rfl) (by simp)
  demand _ _ h := h.orderly (setRequested_orderly _ .rfl) (by rw [setRequested_writes]; simp)
  wake _ h := h.orderly (enterStart_orderly .rfl) (by simp)
  start _ h := h.orderly (enterStart_orderly .rfl) (by simp)
  sleep hs h := enterDormant_outboxInv hs h
  isolate _ _ h := h.orderly (enterIsolated_orderly _ .rfl) (by simp)
  fault _ _ h := enterFault_outboxInv _ h
  mute _ h := enterMute_outboxInv h
  member _ h := h.orderly (enterMember_orderly .rfl) (by simp)
  serve _ _ _ h := serveOutbox_outboxInv h
  ownBreak n ho h := by
    obtain ⟨hlegal, hsend, hone⟩ := outboxInv_iff.1 h
    refine outboxInv_iff.2 ⟨hlegal, hsend.trans ?_, .inr (by simpa [ho] using hone)⟩
    simp [State.sending, ho]
  cut _ h := by
    split
    · obtain ⟨hlegal, hnone⟩ := takeOutcome_outbox .voided (outboxInv_iff.1 h).1
      exact .of_silent hlegal hnone (by simp) (.inr rfl)
    next hs => exact .of_silent (outboxInv_iff.1 h).1 (h.silent (by simpa using hs)) (by simp) (.inr rfl)
  lose k lows _ _ h := by
    obtain ⟨hlegal, hnone⟩ := takeOutcome_outbox .lost (outboxInv_iff.1 h).1
    refine .of_silent hlegal hnone ?_ (.inl rfl)
    unfold loseArbitration
    rw [frameReaches_sending]
    dsimp only
    split <;> rfl
  follow now lows hr hrole h := by
    obtain ⟨r', hf, -, hrole', -, ho⟩ := followTo_frame _ now lows _
    have hnone := h.silent (h.follower hr hrole)
    refine .of_silent (by simpa using (outboxInv_iff.1 h).1) (by simpa using hnone) ?_ (.inl ho)
    simp [State.sending, ho, hf, hrole', hrole]
  send _ _ hr hrole hrole' _ h := by
    obtain ⟨hlegal, hsend, -⟩ := outboxInv_iff.1 h
    refine outboxInv_iff.2 ⟨hlegal, hsend.trans ?_, .inl rfl⟩
    rw [sending_of_followed hr hrole, frameReaches_sending, hrole']
    rfl
  known ho hf hrole h := followedEnd_outboxInv ho hf hrole h
  apply _ ho hf hrole _ _ h :=
    (followedEnd_outboxInv ho hf (by rw [hrole]; nofun) h).orderly (applyFrame_orderly _ .rfl) (by simp)
  conclude out ho _ _ _ h := endOwnFrame_outboxInv _ out ho h
  lapse a _ h := h.orderly (lapseEntry_orderly a .rfl) (by simp)
  remove _ _ h := h.orderly (rosterPass_orderly _ .rfl) (by simp)
  lift _ h := h.orderly (recompute_orderly .rfl) (by simp)
  ramp _ h := h
  settle _ h := h
  under _ _ h := by rw [judgeUnder_writes]; exact h
  overdraw _ _ h := h
  droop _ h := h.orderly (assertDroop_orderly .rfl) (by rw [assertDroop_writes]; simp)
  recover _ h := h.orderly (clearDroopHold_orderly .rfl) (by rw [clearDroopHold_writes]; simp)

theorem reset_outboxInv : State.reset.OutboxInv :=
  ⟨nofun, nofun, nofun, nofun, nofun, rfl, .inl rfl⟩

/-- Settles O58: the outbox is empty at reset and at the read event, the lease tick leaves it, and every command is made
of effects that keep the law. -/
theorem outboxKeepsItsLaw : Obligations.OutboxKeepsItsLaw := by
  intro s t h hs
  refine outboxInv_kept.step (fun _ h => h) ?hold ?release ?write ?tick h hs
  case hold => intro s _; rw [holdReset_eq]; exact reset_outboxInv
  case release =>
    intro s pins _ _
    rcases releaseReset_cases pins s with ⟨-, e⟩ | ⟨-, e⟩ <;> rw [e]
    · exact reset_outboxInv.orderly (enterStart_orderly .rfl) (by simp [readState])
    · exact reset_outboxInv
  case write => intro s h; rw [completeWrite_eq]; exact h
  case tick =>
    intro s h
    unfold leaseTick
    split
    · exact h
    · exact h.orderly .rfl (by simp)

end Sys2Proof.Machine
end

section
/-! The step, the queue and the record (00 Conventions, 07 sections 7.1 to 7.3): every command completes, what was read
at the read event holds until RESET, and a station without a valid record stays silent. -/

namespace Sys2Proof.Machine

/-- Settles O1: it is the definition of a step on a queue with a front. -/
theorem stepRunsFrontCommand : Obligations.StepRunsFrontCommand := by
  intro c s rest
  rfl

/-! ### What holds from the read event to RESET -/

/-- `t` has the queue, the one-time memory, what the read event read, and RESET as `s` has them. -/
def sameStore (s t : State) : Prop :=
  t.pending = s.pending ∧ t.oneTime = s.oneTime ∧ t.address = s.address ∧ t.record = s.record ∧ t.cause = s.cause ∧
  t.resetHeld = s.resetHeld

theorem sameStore.congr {s t u : State} (h : sameStore s t)
    (e : u.pending = t.pending ∧ u.oneTime = t.oneTime ∧ u.address = t.address ∧ u.record = t.record ∧
      u.cause = t.cause ∧ u.resetHeld = t.resetHeld) : sameStore s u := by
  obtain ⟨hq, hm, ha, hr, hc, hh⟩ := h
  obtain ⟨eq, em, ea, er, ec, eh⟩ := e
  exact ⟨eq.trans hq, em.trans hm, ea.trans ha, er.trans hr, ec.trans hc, eh.trans hh⟩

theorem sameStore_kept (s : State) : Kept (sameStore s) where
  port _ _ _ _ _ _ _ h := h.congr (by simp)
  timers _ _ _ _ _ h := h.congr (by simp)
  line _ _ _ _ _ h := h.congr (by simp)
  queue _ _ h := h.congr (by simp)
  demand _ _ h := by rw [setRequested_writes]; exact h.congr (by simp)
  wake _ h := h.congr (by simp [wakeStation])
  start _ h := h.congr (by simp)
  sleep _ h := h.congr (by simp)
  isolate _ _ h := h.congr (by simp)
  fault _ _ h := h.congr (by simp)
  mute _ h := h.congr (by simp)
  member _ h := h.congr (by simp)
  serve _ _ _ h := h.congr (by simp)
  ownBreak _ _ h := h.congr (by simp)
  cut _ h := by split <;> exact h.congr (by simp)
  lose _ _ _ _ h := h.congr (by simp)
  follow _ _ _ _ h := h.congr (by simp)
  send _ _ _ _ _ _ h := h.congr (by simp)
  known _ _ _ h := h.congr (by simp)
  apply _ _ _ _ _ _ h := h.congr (by simp)
  conclude _ _ _ _ _ h := h.congr (by simp)
  lapse _ _ h := h.congr (by simp)
  remove _ _ h := h.congr (by simp)
  lift _ h := h.congr (by simp)
  ramp _ h := h.congr (by simp)
  settle _ h := h.congr (by simp)
  under _ _ h := by rw [judgeUnder_writes]; exact h.congr (by simp)
  overdraw _ _ h := h.congr (by simp)
  droop _ h := by rw [assertDroop_writes]; exact h.congr (by simp)
  recover _ h := by rw [clearDroopHold_writes]; exact h.congr (by simp)

/-- Every command but RESET, the read event and a completed write leaves the queue, the memory and the record. -/
theorem exec_sameStore {c : Instr} (hreset : c ≠ .reset) (hread : ∀ pins, c ≠ .readEvent pins)
    (hwrite : c ≠ .programWriteComplete) (s : State) : ∃ t, exec c s = .next t ∧ sameStore s t :=
  (sameStore_kept s).exec hreset hread hwrite ⟨rfl, rfl, rfl, rfl, rfl, rfl⟩

/-- A read event leaves the queue and the one-time memory. -/
theorem releaseReset_keeps (pins : ReadPins) (s : State) :
    (releaseReset pins s).pending = s.pending ∧ (releaseReset pins s).oneTime = s.oneTime := by
  rcases releaseReset_cases pins s with ⟨-, e⟩ | ⟨-, e⟩ <;> rw [e] <;> simp [readState]

/-- Settles O3: the three commands outside `exec_sameStore` keep the queue as well. -/
theorem everyCommandCompletesKeepingQueue : Obligations.EveryCommandCompletesKeepingQueue := by
  intro c s
  by_cases hc : c = .reset ∨ (∃ pins, c = .readEvent pins) ∨ c = .programWriteComplete
  · rcases hc with rfl | ⟨pins, rfl⟩ | rfl
    · exact ⟨_, rfl, by rw [holdReset_eq]⟩
    · refine ⟨_, rfl, ?_⟩
      split
      · exact (releaseReset_keeps pins s).1
      · rfl
    · exact ⟨_, rfl, by rw [completeWrite_eq]⟩
  · simp only [not_or, not_exists] at hc
    obtain ⟨t, ht, hst⟩ := exec_sameStore hc.1 hc.2.1 hc.2.2 s
    exact ⟨t, ht, hst.1⟩

/-- Settles O7: only RESET, the read event and a completed write reach the store, and the memory changes with a write
in progress alone. -/
theorem recordHeldUntilReset : Obligations.RecordHeldUntilReset := by
  intro c s t ht
  by_cases hc : c = .reset ∨ (∃ pins, c = .readEvent pins) ∨ c = .programWriteComplete
  · rcases hc with rfl | ⟨pins, rfl⟩ | rfl <;> obtain rfl := Host.Outcome.next.inj ht
    · refine ⟨fun h => absurd rfl h, fun h => ⟨?_, .inr rfl⟩⟩
      cases hw : s.writing with
      | none => simp [holdReset, hw] at h
      | some _ => rfl
    · refine ⟨fun _ h => absurd rfl (h pins), fun h => absurd ?_ h⟩
      split
      · exact (releaseReset_keeps pins s).2
      · rfl
    · refine ⟨fun _ _ => by rw [completeWrite_eq]; exact ⟨rfl, rfl, rfl⟩, fun h => ⟨?_, .inl rfl⟩⟩
      cases hw : s.writing with
      | none => simp [completeWrite, hw] at h
      | some _ => rfl
  · simp only [not_or, not_exists] at hc
    obtain ⟨u, hu, -, hm, ha, hr, hcause, -⟩ := exec_sameStore hc.1 hc.2.1 hc.2.2 s
    obtain rfl : u = t := Host.Outcome.next.inj (hu.symm.trans ht)
    exact ⟨fun _ _ => ⟨ha, hr, hcause⟩, fun h => absurd hm h⟩

/-! ### A station without a valid record -/

/-- Outside UNCONFIGURED there is nothing to be silent about, but RESET is not held. -/
theorem State.SilentInv.awake {s : State} (h : s.SilentInv) (hm : s.mode ≠ .unconfigured) : s.resetHeld = false := by
  cases hr : s.resetHeld with
  | false => rfl
  | true => exact absurd (h.1 hr).1 hm

theorem State.SilentInv.of_awake {s t : State} (h : s.SilentInv) (hm : s.mode ≠ .unconfigured)
    (hr : t.resetHeld = s.resetHeld) (ht : t.mode ≠ .unconfigured) : t.SilentInv :=
  ⟨fun hh => absurd (hr.symm.trans hh) (by simp [h.awake hm]), fun h => absurd h ht⟩

/-- A silent station that changes nothing of its roster, its demand, its outbox and its line stays silent. -/
theorem State.SilentInv.congr {s t : State} (h : s.SilentInv) (hr : s.resetHeld = false)
    (e : t.resetHeld = s.resetHeld ∧ t.mode = s.mode ∧ t.replicas = s.replicas ∧ t.holding = s.holding ∧
      t.requested = s.requested ∧ t.target = s.target ∧ t.opening = s.opening ∧ t.frame = s.frame ∧
      t.lineLow = s.lineLow ∧ t.outbox = s.outbox) : t.SilentInv := by
  refine ⟨fun hh => ?_, fun hm => ?_⟩
  · rw [e.1, hr] at hh; cases hh
  · simpa [e] using h.2 (e.2.1.symm.trans hm)

/-- A silent station follows and sends nothing in UNCONFIGURED. -/
theorem State.SilentInv.ne_of_opening {s : State} (h : s.SilentInv) {o : Opening} (ho : s.opening = some o) :
    s.mode ≠ .unconfigured := by
  intro hm
  obtain ⟨-, -, -, -, hopen, -⟩ := h.2 hm
  rw [hopen] at ho; cases ho

theorem State.SilentInv.ne_of_followed {s : State} (h : s.SilentInv) (hr : s.followed.isSome = true) :
    s.mode ≠ .unconfigured := by
  intro hm
  obtain ⟨-, -, -, -, hopen, hframe, -⟩ := h.2 hm
  simp [State.followed, hopen, hframe] at hr

theorem State.SilentInv.ne_of_frame {s : State} (h : s.SilentInv) {r : FrameRecord} (hf : s.frame = some r) :
    s.mode ≠ .unconfigured := by
  intro hm
  obtain ⟨-, -, -, -, -, hframe, -⟩ := h.2 hm
  rw [hframe] at hf; cases hf

/-- In UNCONFIGURED the roster is empty, and so a recompute finds nothing to do (R19, R30). -/
theorem recompute_of_unconfigured {s : State} (hm : s.mode = .unconfigured) (hh : s.holding = 0) (ht : s.target = 0) :
    recompute s = s := by
  have hfair : s.fairTarget = 0 := by
    simp [State.fairTarget, State.roster, State.hasOwnEntry, hm, targetAt, fairTargets, wanting, dealTargets]
  rw [recompute_outside (by simp [hm]) hh, hfair]
  cases s
  simp_all

theorem lineOn_of_lapseDue {s : State} {a : Address} (h : s.lapseDue a = true) : s.lineOn = true := by
  simp only [State.lapseDue, Bool.and_eq_true] at h; exact h.1

theorem lineOn_of_removalDue {s : State} {a : Address} (h : s.removalDue a = true) : s.lineOn = true := by
  simp only [State.removalDue, Bool.and_eq_true] at h; exact h.1

theorem silentInv_kept : Kept State.SilentInv where
  port _ _ _ _ _ _ hr h := h.congr hr (by simp)
  timers _ _ _ _ hr h := h.congr hr (by simp)
  line _ _ _ _ hm h := h.of_awake hm (by simp) (by simpa using hm)
  queue _ hm h := h.of_awake hm (by simp) (by simpa using hm)
  demand hm _ h := h.of_awake hm (by simp) (by simpa using hm)
  wake hm h := h.of_awake (by simp [hm]) (by simp [wakeStation]) (by simp)
  start hm h := h.of_awake (by rcases hm with hm | hm <;> simp [hm]) (by simp) (by simp)
  sleep hm h := h.of_awake (by
    simp only [State.maySleep, Bool.and_eq_true, decide_eq_true_eq] at hm; simp [hm.1.1.1]) (by simp) (by simp)
  isolate _ hm h := h.of_awake (by rcases hm with hm | hm <;> simp [hm]) (by simp) (by simp)
  fault hm _ h := h.of_awake (Mode.ne_unconfigured_of_running hm) (by simp) (by simp)
  mute hm h := h.of_awake (Mode.ne_unconfigured_of_running (Mode.running_of_listening hm)) (by simp) (by simp)
  member hm h := h.of_awake (by simp [hm]) (by simp) (by simp)
  serve hm _ _ h := h.of_awake hm (by simp) (by simpa using hm)
  ownBreak _ ho h := h.of_awake (h.ne_of_opening ho) (by simp) (by simpa using h.ne_of_opening ho)
  cut hm h := by
    have hm' := hm.elim Mode.ne_unconfigured_of_running h.ne_of_followed
    split <;> exact h.of_awake hm' (by simp) (by simpa using hm')
  lose _ _ hr _ h :=
    have hm := h.ne_of_followed (by simp [hr])
    h.of_awake hm (by simp) (by simpa using hm)
  follow _ _ hr _ h :=
    have hm := h.ne_of_followed (by simp [hr])
    h.of_awake hm (by simp) (by simpa using hm)
  send _ _ hr _ _ _ h :=
    have hm := h.ne_of_followed (by simp [hr])
    h.of_awake hm (by simp) (by simpa using hm)
  known _ hf _ h := h.of_awake (h.ne_of_frame hf) (by simp) (by simpa using h.ne_of_frame hf)
  apply _ _ hf _ _ _ h := h.of_awake (h.ne_of_frame hf) (by simp) (by simpa using h.ne_of_frame hf)
  conclude out _ hf _ _ h := by
    refine h.of_awake (h.ne_of_frame hf) (by simp) ?_
    rcases endOwnFrame_mode _ out _ with e | ⟨e, -⟩ | ⟨e, -⟩ <;> rw [e]
    · exact h.ne_of_frame hf
    · simp
    · simp
  lapse _ hd h :=
    have hm := mode_ne_of_lineOn (lineOn_of_lapseDue hd)
    h.of_awake hm (by simp) (by simpa using hm)
  remove _ hd h :=
    have hm := mode_ne_of_lineOn (lineOn_of_removalDue hd)
    h.of_awake hm (by simp) (by simpa using hm)
  lift {s} hr h := by
    by_cases hm : s.mode = .unconfigured
    · obtain ⟨-, hh, -, ht, -⟩ := h.2 hm
      rw [recompute_of_unconfigured (by simpa using hm) (by simpa using hh) (by simpa using ht)]
      exact h.congr hr (by simp)
    · exact h.of_awake hm (by simp) (by simpa using hm)
  ramp {s} hd h := h.congr (by
    simp only [State.rampDue, Bool.and_eq_true, Bool.not_eq_true'] at hd; exact hd.1) (by simp)
  settle hon h := h.congr (samplerOn_iff.1 hon).1 (by simp)
  under _ hon h := by rw [judgeUnder_writes]; exact h.congr (samplerOn_iff.1 hon).1 (by simp)
  overdraw hon _ h := h.congr (samplerOn_iff.1 hon).1 (by simp)
  droop hon h := by
    have hm := Mode.ne_unconfigured_of_running (droopMonitorOn_iff.1 hon).2.1
    rw [assertDroop_writes]
    exact h.of_awake hm rfl hm
  recover hon h := by
    have hm := Mode.ne_unconfigured_of_running (droopMonitorOn_iff.1 hon).2.1
    rw [clearDroopHold_writes]
    exact h.of_awake hm rfl hm

/-- A condition that a station meets in UNCONFIGURED alone, with nothing on its line: every effect but four has no
place there. -/
theorem kept_of_unconfigured {P : State → Prop}
    (quiet : ∀ {s}, P s → s.mode = .unconfigured ∧ s.opening = none ∧ s.frame = none)
    (port : ∀ {s : State} (reply : List Byte) (mask latch : BitVec 10) (straddling : Bool) (writing : Option Record)
      (written : Bool), s.resetHeld = false → P s → P { s with
        reply := reply, mask := mask, latch := latch, straddling := straddling, writing := writing
        written := written })
    (timers : ∀ {s : State} (renewTimer : RenewTimer) (censusRetry recovery : Option Nat) (supplyLow : Bool),
      s.resetHeld = false → P s →
      P { s with renewTimer := renewTimer, censusRetry := censusRetry, recovery := recovery, supplyLow := supplyLow })
    (lift : ∀ {s : State}, s.resetHeld = false → P s → P (recompute (liftSuppression s)))
    (ramp : ∀ {s : State}, s.rampDue = true → P s → P (setLevel (s.level + 1) s)) : Kept P where
  port := port
  timers := timers
  lift := lift
  ramp := ramp
  line _ _ _ _ hm h := absurd (quiet h).1 hm
  queue _ hm h := absurd (quiet h).1 hm
  demand hm _ h := absurd (quiet h).1 hm
  wake hm h := absurd (quiet h).1 (by simp [hm])
  start hm h := absurd (quiet h).1 (by rcases hm with hm | hm <;> simp [hm])
  sleep hm h := absurd (quiet h).1 (by
    simp only [State.maySleep, Bool.and_eq_true, decide_eq_true_eq] at hm; simp [hm.1.1.1])
  isolate _ hm h := absurd (quiet h).1 (by rcases hm with hm | hm <;> simp [hm])
  fault hm _ h := absurd (quiet h).1 (Mode.ne_unconfigured_of_running hm)
  mute hm h := absurd (quiet h).1 (Mode.ne_unconfigured_of_running (Mode.running_of_listening hm))
  member hm h := absurd (quiet h).1 (by simp [hm])
  serve hm _ _ h := absurd (quiet h).1 hm
  ownBreak _ ho h := absurd (quiet h).2.1 (by simp [ho])
  cut hm h := by
    obtain ⟨hmode, hopen, hframe⟩ := quiet h
    rcases hm with hm | hm
    · exact absurd hmode (Mode.ne_unconfigured_of_running hm)
    · simp [State.followed, hopen, hframe] at hm
  lose _ _ hr _ h := by
    obtain ⟨-, hopen, hframe⟩ := quiet h
    simp [State.followed, hopen, hframe] at hr
  follow _ _ hr _ h := by
    obtain ⟨-, hopen, hframe⟩ := quiet h
    simp [State.followed, hopen, hframe] at hr
  send _ _ hr _ _ _ h := by
    obtain ⟨-, hopen, hframe⟩ := quiet h
    simp [State.followed, hopen, hframe] at hr
  known _ hf _ h := absurd (quiet h).2.2 (by simp [hf])
  apply _ _ hf _ _ _ h := absurd (quiet h).2.2 (by simp [hf])
  conclude _ _ hf _ _ h := absurd (quiet h).2.2 (by simp [hf])
  lapse _ hd h := absurd (quiet h).1 (mode_ne_of_lineOn (lineOn_of_lapseDue hd))
  remove _ hd h := absurd (quiet h).1 (mode_ne_of_lineOn (lineOn_of_removalDue hd))
  settle hon h := absurd (quiet h).1 (Mode.ne_unconfigured_of_running (samplerOn_iff.1 hon).2)
  under _ hon h := absurd (quiet h).1 (Mode.ne_unconfigured_of_running (samplerOn_iff.1 hon).2)
  overdraw hon _ h := absurd (quiet h).1 (Mode.ne_unconfigured_of_running (samplerOn_iff.1 hon).2)
  droop hon h := absurd (quiet h).1 (Mode.ne_unconfigured_of_running (droopMonitorOn_iff.1 hon).2.1)
  recover hon h := absurd (quiet h).1 (Mode.ne_unconfigured_of_running (droopMonitorOn_iff.1 hon).2.1)

/-- UNCONFIGURED, silent and with RESET released. -/
def State.unconfiguredSilent (s : State) : Prop := s.mode = .unconfigured ∧ s.resetHeld = false ∧ s.SilentInv

theorem State.SilentInv.quiet {s : State} (h : s.SilentInv) (hm : s.mode = .unconfigured) :
    s.mode = .unconfigured ∧ s.opening = none ∧ s.frame = none := by
  obtain ⟨-, -, -, -, ho, hf, -⟩ := h.2 hm
  exact ⟨hm, ho, hf⟩

theorem unconfiguredSilent_kept : Kept State.unconfiguredSilent :=
  kept_of_unconfigured (fun h => h.2.2.quiet h.1)
    (fun _ _ _ _ _ _ hr h => ⟨h.1, hr, silentInv_kept.port _ _ _ _ _ _ hr h.2.2⟩)
    (fun _ _ _ _ hr h => ⟨h.1, hr, silentInv_kept.timers _ _ _ _ hr h.2.2⟩)
    (fun hr h => ⟨by simpa using h.1, by simpa using hr, silentInv_kept.lift hr h.2.2⟩)
    (fun hd h => ⟨by simpa using h.1, by simpa using h.2.1, silentInv_kept.ramp hd h.2.2⟩)

/-- While RESET is held nothing has an effect: a silent station stays the one it is (log 21). -/
theorem held_kept {s : State} (hr : s.resetHeld = true) (h : s.SilentInv) : Kept (fun t => t = s) :=
  kept_of_unconfigured (by rintro _ rfl; exact h.quiet (h.1 hr).1)
    (by rintro _ _ _ _ _ _ _ hf rfl; rw [hr] at hf; cases hf)
    (by rintro _ _ _ _ _ hf rfl; rw [hr] at hf; cases hf)
    (by rintro _ hf rfl; rw [hr] at hf; cases hf)
    (by rintro _ hd rfl; simp [State.rampDue, hr] at hd)

theorem completeWrite_of_held {s : State} (hr : s.resetHeld = true) (h : s.SilentInv) : completeWrite s = s := by
  simp [completeWrite, (h.1 hr).2]

theorem completeWrite_silentInv {s : State} (h : s.SilentInv) : (completeWrite s).SilentInv := by
  cases hr : s.resetHeld with
  | true => rwa [completeWrite_of_held hr h]
  | false => rw [completeWrite_eq]; exact h.congr hr (by simp)

theorem holdReset_silentInv (s : State) : (holdReset s).SilentInv := by
  rw [holdReset_eq]
  exact ⟨fun _ => ⟨rfl, rfl⟩, fun _ => ⟨rfl, rfl, rfl, rfl, rfl, rfl, rfl, rfl⟩⟩

theorem releaseReset_silentInv (pins : ReadPins) (s : State) : (releaseReset pins s).SilentInv := by
  rcases releaseReset_cases pins s with ⟨-, e⟩ | ⟨-, e⟩ <;> rw [e]
  · exact ⟨by simp [readState], by simp⟩
  · exact ⟨by simp [readState], fun _ => ⟨rfl, rfl, rfl, rfl, rfl, rfl, rfl, rfl⟩⟩

theorem leaseTick_silentInv {s : State} (h : s.SilentInv) : (leaseTick s).SilentInv := by
  unfold leaseTick
  split
  · exact h
  next hr =>
    refine ⟨fun hh => absurd hh hr, fun hm => ?_⟩
    have hs := h.2 (by simpa using hm)
    simpa using hs

/-- Settles O8: in UNCONFIGURED no effect leaves the state, while RESET is held none is taken, and every step keeps a
silent station silent. -/
theorem unconfiguredUntilReset : Obligations.UnconfiguredUntilReset := by
  refine ⟨fun c s t hr hm h hreset ht => ?_, fun c s hr h hreset hread => ?_, fun s t h hs => ?_⟩
  · by_cases hc : (∃ pins, c = .readEvent pins) ∨ c = .programWriteComplete
    · rcases hc with ⟨pins, rfl⟩ | rfl <;> obtain rfl := Host.Outcome.next.inj ht
      · rw [if_neg (by simp [hr])]; exact hm
      · rw [completeWrite_eq]; exact hm
    · simp only [not_or, not_exists] at hc
      obtain ⟨u, hu, hmu, -⟩ := unconfiguredSilent_kept.exec hreset hc.1 hc.2 ⟨hm, hr, h⟩
      exact Host.Outcome.next.inj (hu.symm.trans ht) ▸ hmu
  · by_cases hc : c = .programWriteComplete
    · subst hc
      exact congrArg Host.Outcome.next (completeWrite_of_held hr h)
    · obtain ⟨u, hu, rfl⟩ := (held_kept hr h).exec hreset hread hc rfl
      exact hu
  · exact silentInv_kept.step
      (fun _ h => ⟨by simpa using h.1, by simpa using h.2⟩)
      (fun _ => holdReset_silentInv _) (fun pins _ _ => releaseReset_silentInv pins _)
      completeWrite_silentInv
      leaseTick_silentInv h hs

/-- Settles O60: the state of reset holds, wants, sends and follows nothing, and its counts are 0. -/
theorem resetMeetsEveryInvariant : Obligations.ResetMeetsEveryInvariant :=
  ⟨⟨rfl, rfl⟩, .of_no_frame rfl, ⟨rfl, Nat.le_refl _⟩, .inl rfl, .of_none nofun rfl, reset_countInv, reset_outboxInv,
    reset_unitInv, fun _ => ⟨rfl, rfl⟩, fun _ => ⟨rfl, rfl, rfl, rfl, rfl, rfl, rfl, rfl⟩⟩

end Sys2Proof.Machine
end

section
/-! The end of an own frame (04 sections 4.4 and 4.5, 05 section 5.4): what the lows of a frame leave on the line, what an
outcome does at the outbox, and the one equation that says what OWN_FRAME_OUTCOME does at the frame's end. -/

namespace Sys2Proof.Machine

/-! ### What the lows of a frame leave on the line -/

/-- The last rising edge, written as the largest of the rising edges so far (R73). -/
theorem lastRise_eq (now : Nat) (lows : List Low) :
    lastRise now lows = ((lows.map fun l => l.start + l.width).filter fun e => decide (e ≤ now)).foldr max 0 := by
  have hfold : ∀ (l : List Low) (n : Nat), l.foldl (fun t l => max t (l.start + l.width)) n =
      max n ((l.map fun l => l.start + l.width).foldr max 0) := by
    intro l
    induction l with
    | nil => simp
    | cons x xs ih => intro n; simp only [List.foldl_cons, List.map_cons, List.foldr_cons, ih]; omega
  rw [lastRise, hfold, List.filter_map]
  simp [Function.comp_def]

/-- What a frame that has come to `now` leaves on the line, from the record that is followed (R72, R73; log 6). -/
theorem frameReaches_eq {s : State} {r : FrameRecord} (hr : s.followed = some r) (r' : FrameRecord) (now : Nat)
    (lows : List Low) :
    frameReaches r' now lows s = { s with
      opening := none, frame := some { r' with elapsed := now }
      highTime := quietInFrame s r now lows, lineLow := lowOnLine s r now lows } := by
  have hhigh : highAfter s.highTime r.elapsed now lows = quietInFrame s r now lows := by
    simp only [highAfter, quietInFrame, lastRise_eq, lineLowAt]
  have hlow : lowAfter s.mode.listening (if s.opening.isSome then none else s.lineLow) r.elapsed now lows =
      lowOnLine s r now lows := by
    unfold lowAfter lowOnLine
    split <;> simp only [*]
  simp only [frameReaches, hr, Option.map_some, Option.getD_some, hhigh, hlow]

/-! ### The known frame end -/

/-- Queuing, as the statements write it (R85). -/
theorem mergeQueued_eq (i : Option Intent) : mergeQueued i = queuedInto i := by cases i <;> rfl

/-- The CENSUS that a known frame end brings to a station `s` in START whose join condition it meets, queued in `t`
(R126). -/
def joinCensus (s t : State) : State :=
  if s.mode = .start ∧ s.joinCondition = false then queueIntent .census t else t

theorem joinCensus_of_joined {s : State} (h : s.mode ≠ .start ∨ s.joinCondition = true) (t : State) :
    joinCensus s t = t := by
  rw [joinCensus, if_neg]
  rintro ⟨hm, hj⟩
  simp [hm, hj] at h

theorem joinCensus_of_joins {s : State} (hm : s.mode = .start) (hj : s.joinCondition = false) (t : State) :
    joinCensus s t = queueIntent .census t := if_pos ⟨hm, hj⟩

/-- A joining CENSUS touches its own place and its retry timer alone (R85, R93). -/
theorem joinCensus_eq (s t : State) :
    joinCensus s t = { t with
      outbox := (joinCensus s t).outbox, censusRetry := (joinCensus s t).censusRetry } := by
  unfold joinCensus
  split <;> rfl

theorem joinCensus_outbox (s t : State) : (joinCensus s t).outbox = { t.outbox with
      census := if s.mode = .start ∧ s.joinCondition = false then queuedInto t.outbox.census else t.outbox.census } := by
  unfold joinCensus
  split
  · simp [Outbox.put, Outbox.get, mergeQueued_eq]
  · rfl

theorem knownFrameEnd_eq (s : State) :
    knownFrameEnd s = joinCensus s { s with
      synchronised := true, highTime := 0, joinCondition := s.joinCondition || decide (s.mode = .start) } := by
  unfold knownFrameEnd joinCensus
  by_cases hm : s.mode = .start
  · cases s.joinCondition <;> simp [hm]
  · simp [hm]

/-! ### Outcomes at the outbox -/

/-- The record that an intent returns with (R90): its own count, the notice of either record, not covered. -/
def Outbox.returned (o : Outbox) (k : Kind) (i : Intent) : Intent :=
  ⟨i.attempts, i.notice || ((o.get k).map Intent.notice).getD false, false⟩

theorem returnIntent_eq (k : Kind) (i : Intent) (s : State) :
    returnIntent k i s =
      let s' := { s with outbox := s.outbox.put k (some (s.outbox.returned k i)) }
      if i.attempts < 8 then s' else eighthFailure k (s.outbox.returned k i) s' := by
  unfold returnIntent Outbox.returned
  cases hq : s.outbox.get k <;> rfl

/-- `s` with another line: what an outcome at the outbox neither reads nor writes. -/
def State.withLine (opening : Option Opening) (frame : Option FrameRecord) (synchronised joinCondition : Bool)
    (highTime : Nat) (lineLow : Option LineLow) (s : State) : State :=
  { s with
    opening := opening, frame := frame, synchronised := synchronised, joinCondition := joinCondition
    highTime := highTime, lineLow := lineLow }

section
variable (opening : Option Opening) (frame : Option FrameRecord) (synchronised joinCondition : Bool) (highTime : Nat)
  (lineLow : Option LineLow)

theorem eighthFailure_withLine (k : Kind) (i : Intent) (s : State) :
    eighthFailure k i (s.withLine opening frame synchronised joinCondition highTime lineLow) =
      (eighthFailure k i s).withLine opening frame synchronised joinCondition highTime lineLow := by
  cases k
  · rfl
  · rfl
  · simp only [eighthFailure]; split <;> rfl
  · rfl

theorem returnIntent_withLine (k : Kind) (i : Intent) (s : State) :
    returnIntent k i (s.withLine opening frame synchronised joinCondition highTime lineLow) =
      (returnIntent k i s).withLine opening frame synchronised joinCondition highTime lineLow := by
  rw [returnIntent_eq, returnIntent_eq]
  dsimp only
  split
  · rfl
  · exact eighthFailure_withLine opening frame synchronised joinCondition highTime lineLow k _ { s with
      outbox := s.outbox.put k (some (s.outbox.returned k i)) }

theorem takeOutcome_withLine (out : FrameOutcome) (s : State) :
    takeOutcome out (s.withLine opening frame synchronised joinCondition highTime lineLow) =
      (takeOutcome out s).withLine opening frame synchronised joinCondition highTime lineLow := by
  cases hf : s.outbox.inFlight with
  | none => simp [takeOutcome, State.withLine, hf]
  | some f =>
    cases hc : f.cancelled with
    | true => simp [takeOutcome, State.withLine, hf, hc]
    | false =>
      cases out
      case accepted => simp [takeOutcome, State.withLine, hf, hc]
      all_goals
        simp only [takeOutcome, hf, hc, show (s.withLine opening frame synchronised joinCondition highTime
          lineLow).outbox = s.outbox from rfl, Bool.false_eq_true, if_false]
        rw [← returnIntent_withLine]
        rfl

end

/-- The outcome goes to the outbox, the line is at the known frame end: in either order (R73, R80). -/
theorem knownFrameEnd_takeOutcome {s : State} {r : FrameRecord} (hr : s.followed = some r) (out : FrameOutcome)
    (r' : FrameRecord) (now : Nat) (lows : List Low) :
    knownFrameEnd { takeOutcome out (frameReaches r' now lows s) with frame := none } =
      joinCensus s (takeOutcome out (atFrameEnd s r now lows)) := by
  have hline := takeOutcome_withLine none (some { r' with elapsed := now }) s.synchronised s.joinCondition
    (quietInFrame s r now lows) (lowOnLine s r now lows) out s
  have hend := takeOutcome_withLine none none true (s.joinCondition || decide (s.mode = .start)) 0
    (lowOnLine s r now lows) out s
  rw [knownFrameEnd_eq, frameReaches_eq hr]
  simp only [State.withLine] at hline hend
  simp only [atFrameEnd, hend, hline]
  simp only [joinCensus, takeOutcome_mode]

/-- A covered RENEW stays, its mark cleared, when the frame was not accepted (R89, R95). -/
theorem settleCovered_false (i : Option Intent) :
    settleCovered false i = i.map fun i => { i with covered := false } := by
  cases i with
  | none => rfl
  | some i =>
    obtain ⟨attempts, notice, covered⟩ := i
    cases covered <;> rfl

/-- It is removed when the frame was accepted (R95). -/
theorem settleCovered_true (i : Option Intent) :
    settleCovered true i = i.bind fun i => if i.covered then none else some i := by
  cases i with
  | none => rfl
  | some i => cases hc : i.covered <;> simp [settleCovered, hc]

theorem takeOutcome_accepted {s : State} {f : Flight} (hf : s.outbox.inFlight = some f) :
    takeOutcome .accepted s = { s with
      outbox := { s.outbox with
        inFlight := none, renew := s.outbox.renew.bind fun i => if i.covered then none else some i } } := by
  simp [takeOutcome, hf, settleCovered_true]

/-- A cancelled intent is discarded at every outcome but an acceptance just so (R96). -/
theorem takeOutcome_cancelled {out : FrameOutcome} (hout : out ≠ .accepted) {s : State} {f : Flight}
    (hf : s.outbox.inFlight = some f) (hc : f.cancelled = true) :
    takeOutcome out s = { s with
      outbox := { s.outbox with
        inFlight := none, renew := s.outbox.renew.map fun i => { i with covered := false } } } := by
  simp [takeOutcome, hf, hc, hout, settleCovered_false]

/-- The collection that a failed frame's intent returns to (R89, R91). -/
def Outbox.landed (o : Outbox) (backoff : Bool) : Outbox :=
  { o with inFlight := none, renew := o.renew.map fun i => { i with covered := false }, backoff := backoff }

theorem Outbox.landed_notice (o : Outbox) (backoff : Bool) (k : Kind) :
    (((o.landed backoff).get k).map Intent.notice).getD false = ((o.get k).map Intent.notice).getD false := by
  cases k <;> simp [Outbox.landed, Outbox.get, Option.map_map, Function.comp_def]

/-- A counted failure: voided, unheard, or a clash (R89, R91). -/
def FrameOutcome.counted : FrameOutcome → Bool
  | .voided | .unheard | .clash => true
  | _ => false

theorem takeOutcome_counted_eq {out : FrameOutcome} (hout : out.counted = true) {s : State} {f : Flight}
    (hf : s.outbox.inFlight = some f) (hc : f.cancelled = false) :
    takeOutcome out s = returnIntent f.kind { f.intent with attempts := f.intent.attempts + 1 }
      { s with outbox := s.outbox.landed true } := by
  cases out <;> simp_all [FrameOutcome.counted, takeOutcome, Outbox.landed, settleCovered_false]

/-- What a counted failure does at the outbox, at every count (R89 to R94). -/
theorem takeOutcome_countedFailure {out : FrameOutcome} (hout : out.counted = true) {s : State} {f : Flight}
    (hf : s.outbox.inFlight = some f) (hc : f.cancelled = false) : countedFailure f s (takeOutcome out s) := by
  rw [takeOutcome_counted_eq hout hf hc, returnIntent_eq]
  simp only [countedFailure, Outbox.returned, Outbox.landed_notice]
  generalize (f.intent.notice || ((s.outbox.get f.kind).map Intent.notice).getD false) = notice
  by_cases h8 : f.intent.attempts + 1 < 8
  · simp only [h8, if_true]
    refine ⟨by simp [Outbox.landed], by simp [Outbox.landed], by simp, ?_, ?_, ?_⟩ <;>
      (intro h7; omega)
  · simp only [h8, if_false]
    cases hk : f.kind
    case claim =>
      have hword : EventKind.abandoned.word = 64 := rfl
      cases notice <;>
        simp [eighthFailure, Outbox.landed, Outbox.put, Outbox.get, hword, mergeQueued_eq, queuedInto]
    all_goals simp [eighthFailure, Outbox.landed, Outbox.put, Outbox.get]

/-- A counted failure reads and writes the outbox, the latch, suppression and the retry timer alone. -/
theorem countedFailure_congr {f : Flight} {s s' t t' : State} (h : countedFailure f s t)
    (es : s'.outbox = s.outbox ∧ s'.latch = s.latch ∧ s'.suppression = s.suppression)
    (et : t'.outbox = t.outbox ∧ t'.latch = t.latch ∧ t'.suppression = t.suppression ∧
      t'.censusRetry = t.censusRetry) : countedFailure f s' t' := by
  simpa only [countedFailure, es, et] using h

/-! ### The end of an own frame -/

/-- The effect of an outcome on the station, behind the outbox and the known frame end (R80). -/
def settleOwn (sent : SentFrame) (out : FrameOutcome) (s : State) : State :=
  match out with
  | .accepted => acceptOwnFrame sent.fields s
  | .clash => enterFault .clash s
  | _ => s

/-- What the sender's record says at the frame's end is what stood in it or what the lows show then (R67, R80); a
mismatch leaves the slots without a say. -/
theorem outcomeOf_sampled {r : FrameRecord} (hrole : r.role = .sender) {now : Nat} (hend : 1010 ≤ now)
    (m : Option (Mismatch × Nat)) (lows : List Low) (lone : Bool) :
    let r' := FrameRecord.sampled { r.assembled now lows with mismatch := m } now lows
    outcomeOf lone (r'.mismatch.map Prod.fst) (r'.ackSample == some true) (r'.voidSample == some true) =
      outcomeOf lone (m.map Prod.fst) (r.ackSample.getD (ackSeen lows)) (r.voidSample.getD (voidSeen lows)) := by
  have hack : Config.ackStart + Config.slotSample ≤ now := Nat.le_trans (by decide) hend
  have hvoid : Config.voidStart + Config.slotSample ≤ now := Nat.le_trans (by decide) hend
  cases m with
  | none =>
    cases ha : r.ackSample <;> cases hv : r.voidSample <;>
      simp [FrameRecord.sampled, FrameRecord.assembled, FrameRecord.drivesAck, FrameRecord.drivesVoid, hrole, hack,
        hvoid, ha, hv]
  | some m => obtain ⟨m, k⟩ := m; cases m <;> rfl

/-- A sender that has lost no arbitration goes on with its record (R77 to R79). -/
theorem sendTo_of_not_lost {r : FrameRecord} {sent : SentFrame} {now : Nat} {lows : List Low}
    (hm : ∀ k, r.mismatchBy sent now lows ≠ some (.lost, k)) (s : State) :
    sendTo r sent now lows s = frameReaches
      (FrameRecord.sampled { r.assembled now lows with mismatch := r.mismatchBy sent now lows } now lows) now lows s := by
  unfold sendTo
  split
  next k h => exact absurd h (hm k)
  · rfl

section
variable {s : State} {r : FrameRecord} {sent : SentFrame} {now : Nat} {lows : List Low} (hr : s.followed = some r)
  (hrole : r.role = .sender)
include hr hrole

/-- An own frame that comes to its end with no break inside it and no loss on the way (R80). -/
theorem ownTo_end (hbreak : breakInside now lows = none) (hend : 1010 ≤ now)
    (hm : ∀ k, r.mismatchBy sent now lows ≠ some (.lost, k)) :
    let out := outcomeOf s.record.lone ((r.mismatchBy sent now lows).map Prod.fst)
      (r.ackSample.getD (ackSeen lows)) (r.voidSample.getD (voidSeen lows))
    ownTo r sent now lows s = settleOwn sent out (joinCensus s (takeOutcome out (atFrameEnd s r now lows))) := by
  have hframe : Config.frameEnd ≤ now := hend
  simp only [ownTo, hbreak, sendTo_of_not_lost hm, frameReaches_frame, sampled_role]
  rw [if_neg (by simp [FrameRecord.assembled, hrole]), if_pos hframe]
  have hout := outcomeOf_sampled hrole hend (r.mismatchBy sent now lows) lows s.record.lone
  simp only [concludeOwn, endOwnFrame, frameReaches_record]
  simp only [hout, knownFrameEnd_takeOutcome hr]
  rfl

/-- OWN_FRAME_OUTCOME at the end of the own frame (R80): the outbox takes the outcome, the known frame end follows, and
then the outcome's effect on the station. -/
theorem exec_ownFrame_end {reached : Nat} {raw : List Low} (hsent : r.sent = some sent)
    (hreach : reaches r reached now raw lows) (hend : 1010 ≤ now)
    (hm : ∀ k, r.mismatchBy sent now lows ≠ some (.lost, k)) {out : FrameOutcome}
    (hout : outcomeOf s.record.lone ((r.mismatchBy sent now lows).map Prod.fst)
      (r.ackSample.getD (ackSeen lows)) (r.voidSample.getD (voidSeen lows)) = out) :
    exec (.ownFrameOutcome ⟨reached, raw, .nothing⟩) s =
      .next (settleOwn sent out (joinCensus s (takeOutcome out (atFrameEnd s r now lows)))) := by
  obtain ⟨rfl, rfl, hbreak⟩ := hreach
  subst hout
  refine congrArg Host.Outcome.next ?_
  rw [← ownTo_end hr hrole hbreak hend hm]
  simp only [outcomeWith, ownFrameOutcome, hr, hrole, hsent]

end

end Sys2Proof.Machine
end

section
/-! The allocator (02 sections 2.4 and 2.5): the recompute in each of its three courses, what a chain of allocator steps
writes, that the latch only grows, and that a changed demand is left to an intent. -/

namespace Sys2Proof.Machine

/-! ### The recompute, course by course -/

/-- Above the target the holding and the level fall to it at once and a YIELD is queued (R33). -/
theorem recompute_yields {s : State} (h : s.fairTarget < s.holding) :
    recompute s = { s with
      target := s.fairTarget, holding := s.fairTarget, rampTarget := s.fairTarget, level := min s.level s.fairTarget
      settle := if s.fairTarget < s.level then 8 else s.settle
      overdrawRun := if s.fairTarget < s.level then 0 else s.overdrawRun
      underRun := if s.fairTarget < s.level then 0 else s.underRun
      under := if s.fairTarget < s.level then false else s.under
      latch := s.latch ||| 32, suppression := none
      outbox := { s.outbox with yield := queuedInto s.outbox.yield } } := by
  rcases recompute_cases s with ⟨-, e⟩ | ⟨h', -⟩ | ⟨h', -⟩
  · rw [e, balanceYield, setHolding, if_neg (by simp; omega)]
    dsimp only
    split
    next hl =>
      have hl' : s.fairTarget < s.level := hl
      apply State.ext <;> simp [hl', mergeQueued_eq, Outbox.put, Outbox.get]
      · omega
      · rfl
    next hl =>
      have hl' : ¬ s.fairTarget < s.level := hl
      apply State.ext <;> simp [hl', mergeQueued_eq, Outbox.put, Outbox.get]
      · omega
      · rfl
  · omega
  · omega

theorem claimWanted_refreshTarget (s : State) :
    (refreshTarget s).claimWanted = true ↔ s.holding < s.fairTarget ∧ s.mode = .member ∧ s.droopHold = false ∧
      s.rosterSum < s.budget ∧ s.suppression = none := by
  have hfree : (0 < (refreshTarget s).free) ↔ s.rosterSum < s.budget := by
    show 0 < (s.budget : Int) - s.rosterSum ↔ _
    omega
  have hover : (refreshTarget s).overcommitted = true ↔ s.budget < s.rosterSum := decide_eq_true_iff
  simp only [State.claimWanted, Bool.and_eq_true, decide_eq_true_eq, Bool.not_eq_true', hfree,
    ← Bool.not_eq_true, hover, Option.isNone_iff_eq_none]
  simp only [refreshTarget_target, refreshTarget_holding, refreshTarget_mode, refreshTarget_droopHold,
    refreshTarget_suppression, Bool.not_eq_true]
  constructor
  · rintro ⟨⟨⟨⟨⟨hh, hm⟩, hd⟩, hf⟩, -⟩, hs⟩
    exact ⟨hh, hm, hd, hf, hs⟩
  · rintro ⟨hh, hm, hd, hf, hs⟩
    exact ⟨⟨⟨⟨⟨hh, hm⟩, hd⟩, hf⟩, by omega⟩, hs⟩

/-- Below the target, with nothing that holds a claim off, a CLAIM is queued (R34). -/
theorem recompute_claims {s : State} (h : (refreshTarget s).claimWanted = true) :
    recompute s = { s with
      target := s.fairTarget, outbox := { s.outbox with claim := queuedInto s.outbox.claim } } := by
  have hlt := ((claimWanted_refreshTarget s).1 h).1
  rcases recompute_cases s with ⟨h', -⟩ | ⟨-, -, e⟩ | ⟨-, h', -⟩
  · omega
  · rw [e]
    simp [queueIntent, refreshTarget, Outbox.put, Outbox.get, mergeQueued_eq]
  · rw [h] at h'; cases h'

/-- Settles O52: the three courses of `recompute_cases`, written out. -/
theorem balanceTakesOneOfThreeCourses : Obligations.BalanceTakesOneOfThreeCourses := by
  intro s
  refine ⟨recompute_yields, fun h => recompute_claims ((claimWanted_refreshTarget s).2 h), fun hy hc => ?_⟩
  refine recompute_quiet (by omega) ?_
  rw [← Bool.not_eq_true, claimWanted_refreshTarget]
  exact hc

/-! ### What a chain of allocator steps writes -/

end Sys2Proof.Machine

namespace allocatorOnly

open Sys2Proof Sys2Proof.Machine

variable {s t u : State}

theorem rfl : allocatorOnly s s := Eq.refl s

theorem trans (h : allocatorOnly s t) (h' : allocatorOnly t u) : allocatorOnly s u := by
  cases s; cases t; cases u
  simp only [allocatorOnly, State.mk.injEq] at h h' ⊢
  simp_all

theorem recompute (h : allocatorOnly s t) : allocatorOnly s (Machine.recompute t) :=
  h.trans (by apply State.ext <;> simp)

theorem beginOvercommit (was : Bool) (h : allocatorOnly s t) : allocatorOnly s (Machine.beginOvercommit was t) :=
  h.trans (by apply State.ext <;> simp)

theorem liftSuppression (h : allocatorOnly s t) : allocatorOnly s (Machine.liftSuppression t) :=
  h.trans (by apply State.ext <;> simp)

theorem latchEvent (k : EventKind) (h : allocatorOnly s t) : allocatorOnly s (Machine.latchEvent k t) :=
  h.trans (by apply State.ext <;> simp)

theorem setHolding (v : Nat) (h : allocatorOnly s t) : allocatorOnly s (Machine.setHolding v t) :=
  h.trans (by apply State.ext <;> simp)

theorem demandNotice (h : allocatorOnly s t) : allocatorOnly s (Machine.demandNotice t) :=
  h.trans (by apply State.ext <;> simp)

theorem queueIntent {k : Kind} (hk : k ≠ .census) (h : allocatorOnly s t) : allocatorOnly s (Machine.queueIntent k t) :=
  h.trans (by apply State.ext <;> simp [hk])

theorem ownPass (before : State) (h : allocatorOnly s t) : allocatorOnly s (Machine.ownPass before t) :=
  h.trans (by apply State.ext <;> simp)

theorem entryPass (before : State) (h : allocatorOnly s t) : allocatorOnly s (Machine.entryPass before t) :=
  h.trans (by apply State.ext <;> simp)

theorem rosterPass (was : Bool) (h : allocatorOnly s t) : allocatorOnly s (Machine.rosterPass was t) :=
  h.trans (by apply State.ext <;> simp)

theorem announceDemand (before : State) (h : allocatorOnly s t) : allocatorOnly s (Machine.announceDemand before t) :=
  h.trans (by apply State.ext <;> simp)

theorem renewOnRise (before : State) (h : allocatorOnly s t) : allocatorOnly s (Machine.renewOnRise before t) :=
  h.trans (by apply State.ext <;> simp)

/-- The outbox is the allocator's to write. -/
theorem outbox (o : Outbox) : allocatorOnly s { s with outbox := o } := Eq.refl _

end allocatorOnly

namespace Sys2Proof.Machine

/-! ### No pass raises the holding -/

theorem ownPass_holding_le (before s : State) : (ownPass before s).holding ≤ s.holding := by
  unfold ownPass rosterPass
  split <;> simp

/-! ### The latch only grows -/

section
variable {s : State} {k : EventKind}

theorem latched_of_or {t : State} {w : BitVec 10} (ht : t.latch = s.latch ||| w) (h : s.latched k = true) :
    t.latched k = true := by
  simp only [State.latched] at h ⊢
  simp [ht, h]

theorem latchEvent_latched (j : EventKind) (h : s.latched k = true) : (latchEvent j s).latched k = true :=
  latched_of_or rfl h

@[simp] theorem latchEvent_latched_self : (latchEvent k s).latched k = true := by simp [latched_latchEvent]

theorem setHolding_latched (v : Nat) (h : s.latched k = true) : (setHolding v s).latched k = true := by
  by_cases hv : v = s.holding
  · rwa [setHolding_same hv]
  · exact latched_of_or (by rw [setHolding_latch, if_neg hv]) h

/-- A changed holding latches OUTPUT (R7). -/
theorem setHolding_latched_output {v : Nat} (h : v ≠ s.holding) : (setHolding v s).latched .output = true := by
  rw [latched_congr (t := setHolding v s) (s := latchEvent .output s) (by rw [setHolding_latch, if_neg h]; rfl)]
  exact latchEvent_latched_self

theorem recompute_latched (h : s.latched k = true) : (recompute s).latched k = true := by
  rcases recompute_cases s with ⟨-, e⟩ | ⟨-, -, e⟩ | ⟨-, -, e⟩ <;> rw [e]
  · rw [balanceYield, latched_congr (queueIntent_latch _ _), latched_congr (liftSuppression_latch _)]
    exact setHolding_latched _ h
  · rwa [latched_congr (queueIntent_latch _ _)]
  · exact h

theorem beginOvercommit_latched (was : Bool) (h : s.latched k = true) : (beginOvercommit was s).latched k = true := by
  unfold beginOvercommit
  split
  · exact latchEvent_latched _ (by rwa [latched_congr (withdrawClaim_latch _)])
  · exact h

theorem ownPass_latched (before : State) (h : s.latched k = true) : (ownPass before s).latched k = true := by
  unfold ownPass
  split
  · exact recompute_latched (beginOvercommit_latched _ h)
  · exact h

theorem announceDemand_latched (before : State) (h : s.latched k = true) :
    (announceDemand before s).latched k = true := by
  rwa [latched_congr (announceDemand_latch _ _)]

end

/-! ### What the passes leave in the outbox -/

/-- Overcommit touches the CLAIM and the RENEW alone, in the collection and in flight (R17, R86, R96). -/
theorem beginOvercommit_outbox (was : Bool) (s : State) :
    (beginOvercommit was s).outbox.yield = s.outbox.yield ∧ (beginOvercommit was s).outbox.census = s.outbox.census ∧
    (beginOvercommit was s).outbox.backoff = s.outbox.backoff ∧
    (s.outbox.inFlight = none → (beginOvercommit was s).outbox.inFlight = none) := by
  unfold beginOvercommit
  split
  · unfold withdrawClaim
    dsimp only
    split <;> simp [Outbox.put, Outbox.cancel, Outbox.get]
  · exact ⟨rfl, rfl, rfl, id⟩

theorem rosterPass_outbox (was : Bool) (s : State) :
    (rosterPass was s).outbox.census = s.outbox.census ∧
    (s.outbox.inFlight = none → (rosterPass was s).outbox.inFlight = none) := by
  obtain ⟨-, hcensus, hflight, -⟩ := recompute_outbox (beginOvercommit was (liftSuppression s))
  obtain ⟨-, hcensus', -, hflight'⟩ := beginOvercommit_outbox was (liftSuppression s)
  exact ⟨hcensus.trans hcensus', fun h => hflight.trans (hflight' h)⟩

theorem ownPass_outbox (before s : State) :
    (ownPass before s).outbox.census = s.outbox.census ∧
    (s.outbox.inFlight = none → (ownPass before s).outbox.inFlight = none) := by
  unfold ownPass
  split
  · exact rosterPass_outbox _ _
  · exact ⟨rfl, id⟩

/-- A notice is left to an intent, in the order of R86. -/
theorem demandNotice_announcing (s : State) : announcing (demandNotice s).outbox := by
  unfold demandNotice
  split
  next hy => exact .inl hy
  next hy =>
    have hy' : s.outbox.yield = none := by simpa using hy
    split
    next i hi => exact .inr (.inl ⟨by simpa [Outbox.put] using hy', _, rfl, rfl⟩)
    next hc =>
      exact .inr (.inr ⟨by simpa [Outbox.put] using hy', by simpa [Outbox.put] using hc, _,
        by simp [Outbox.put, Outbox.get, mergeQueued_eq]; rfl, rfl⟩)

/-- It touches neither the CENSUS nor the intent in flight. -/
theorem demandNotice_outbox (s : State) :
    (demandNotice s).outbox.census = s.outbox.census ∧ (demandNotice s).outbox.inFlight = s.outbox.inFlight := by
  unfold demandNotice
  split
  · exact ⟨rfl, rfl⟩
  · split <;> exact ⟨rfl, rfl⟩

end Sys2Proof.Machine
end

section
/-! The outcomes of an own frame (03 sections 3.4 to 3.8, 04 section 4.5, 05 section 5.4), each from the one equation for
the frame's end, `exec_ownFrame_end`. -/

namespace Sys2Proof.Machine

/-! ### Which outcome -/

section
variable {m : Option (Mismatch × Nat)} {lone ack void : Bool}

/-- Read back as sent, with no VOID, and an ACK or LONE: accepted (R80). -/
theorem outcomeOf_accepted (hm : m = none) (hv : void = false) (ha : ack = true ∨ lone = true) :
    outcomeOf lone (m.map Prod.fst) ack void = .accepted := by
  subst hm hv
  rcases ha with rfl | rfl
  · rfl
  · cases ack <;> rfl

theorem outcomeOf_eq_accepted (h : outcomeOf lone (m.map Prod.fst) ack void = .accepted) :
    m = none ∧ void = false ∧ (ack = true ∨ lone = true) := by
  cases m with
  | none => cases void <;> cases ack <;> cases lone <;> simp_all [outcomeOf]
  | some m => obtain ⟨m, k⟩ := m; cases m <;> cases h

/-- A readback error, a VOID, or neither slot asserted without LONE: a failure that is no clash (R80). -/
theorem outcomeOf_failed (h : (∃ k, m = some (.readback, k)) ∨
    (m = none ∧ (void = true ∨ (ack = false ∧ lone = false)))) :
    outcomeOf lone (m.map Prod.fst) ack void = .voided ∨ outcomeOf lone (m.map Prod.fst) ack void = .unheard := by
  rcases h with ⟨k, rfl⟩ | ⟨rfl, rfl | ⟨rfl, rfl⟩⟩
  · exact .inl rfl
  · exact .inl rfl
  · cases void
    · exact .inr rfl
    · exact .inl rfl

theorem not_lost_of_none (hm : m = none) (k : Nat) : m ≠ some (.lost, k) := by simp [hm]

end

/-! ### Failures -/

/-- Below the eighth a counted failure writes the outbox alone (R89, R90). -/
theorem takeOutcome_counted_lt {out : FrameOutcome} (hout : out.counted = true) {s : State} {f : Flight}
    (hf : s.outbox.inFlight = some f) (hc : f.cancelled = false) (hlt : f.intent.attempts + 1 < 8) :
    takeOutcome out s = { s with outbox := (takeOutcome out s).outbox } := by
  rw [takeOutcome_counted_eq hout hf hc, returnIntent_eq]
  simp only [hlt, if_true]

/-- A joining CENSUS behind a counted failure merges with a CENSUS that came back (R85, R90). -/
theorem joinCensus_countedFailure {f : Flight} {s t : State} (s' : State) (hlt : f.intent.attempts + 1 < 8)
    (h : countedFailure f s t) : countedFailure f s (joinCensus s' t) := by
  unfold joinCensus
  split
  · obtain ⟨hflight, hback, hreturn, -⟩ := h
    obtain ⟨hget, hlatch, hsupp⟩ := hreturn hlt
    refine ⟨by simpa using hflight, by simpa using hback, fun _ => ⟨?_, by simpa using hlatch, by simpa using hsupp⟩, ?_⟩
    · by_cases hk : f.kind = .census
      · rw [hk] at hget ⊢
        rw [queueIntent_get_self, hget, mergeQueued_eq]
        rfl
      · rw [queueIntent_get_of_ne hk, hget]
    · exact ⟨fun h7 => by omega, fun h7 => by omega, fun h7 => by omega⟩
  · exact h

section
variable {reached now : Nat} {raw lows : List Low} {r : FrameRecord} {sent : SentFrame} {s : State}

/-- A failed frame's end at the station: the outbox and the known frame end, and nothing more (R51). -/
theorem exec_ownFrame_failed (hr : s.followed = some r) (hrole : r.role = .sender) (hsent : r.sent = some sent)
    (hreach : reaches r reached now raw lows) (hend : 1010 ≤ now)
    (hfail : (∃ k, r.mismatchBy sent now lows = some (.readback, k)) ∨
      (r.mismatchBy sent now lows = none ∧ (r.voidSample.getD (voidSeen lows) = true ∨
        (r.ackSample.getD (ackSeen lows) = false ∧ s.record.lone = false)))) :
    ∃ out : FrameOutcome, out.counted = true ∧ exec (.ownFrameOutcome ⟨reached, raw, .nothing⟩) s =
      .next (joinCensus s (takeOutcome out (atFrameEnd s r now lows))) := by
  have hlost : ∀ k, r.mismatchBy sent now lows ≠ some (.lost, k) := by
    rcases hfail with ⟨k, h⟩ | ⟨h, -⟩ <;> simp [h]
  have hexec := fun out => exec_ownFrame_end (out := out) hr hrole hsent hreach hend hlost
  rcases outcomeOf_failed hfail with hout | hout
  · exact ⟨.voided, rfl, hexec _ hout⟩
  · exact ⟨.unheard, rfl, hexec _ hout⟩

end

/-- Settles O41: the intent returns counted, a cancelled one is discarded, and the station is at a known frame end. -/
theorem failedFrameReturnsCounted : Obligations.FailedFrameReturnsCounted := by
  intro reached now raw lows r sent f s hr hrole hsent hreach hend hfail hf
  obtain ⟨out, hout, hexec⟩ := exec_ownFrame_failed hr hrole hsent hreach hend hfail
  have hf' : (atFrameEnd s r now lows).outbox.inFlight = some f := hf
  refine ⟨fun hc hlt => ⟨_, hexec, ?_, ?_⟩, fun hc hm => ?_⟩
  · rw [joinCensus_eq, takeOutcome_counted_lt hout hf' hc hlt]
  · exact joinCensus_countedFailure _ hlt
      (countedFailure_congr (takeOutcome_countedFailure hout hf' hc) ⟨rfl, rfl, rfl⟩ ⟨rfl, rfl, rfl, rfl⟩)
  · have hne : out ≠ .accepted := by rintro rfl; cases hout
    rw [hexec, joinCensus_of_joined (.inl hm), takeOutcome_cancelled hne hf' hc]
    rfl

/-- Settles O42: the outbox takes the failure, and with the join condition met nothing joins it. -/
theorem eighthFailureByKind : Obligations.EighthFailureByKind := by
  intro reached now raw lows r sent f s hr hrole hsent hreach hend hfail hf hc h7 hjoined
  obtain ⟨out, hout, hexec⟩ := exec_ownFrame_failed hr hrole hsent hreach hend hfail
  have hf' : (atFrameEnd s r now lows).outbox.inFlight = some f := hf
  rw [joinCensus_of_joined hjoined] at hexec
  refine ⟨_, hexec, takeOutcome_writes out _, ?_⟩
  exact countedFailure_congr (takeOutcome_countedFailure hout hf' hc) ⟨rfl, rfl, rfl⟩ ⟨rfl, rfl, rfl, rfl⟩

/-! ### Acceptances -/

section
variable {reached now : Nat} {raw lows : List Low} {r : FrameRecord} {sent : SentFrame} {f : Flight} {s : State}

/-- The station at the end of an accepted frame, before the acceptance has its effect (R80, R89). -/
def acceptedEnd (s : State) (r : FrameRecord) (now : Nat) (lows : List Low) : State :=
  joinCensus s { atFrameEnd s r now lows with
    outbox := { s.outbox with
      inFlight := none, renew := s.outbox.renew.bind fun i => if i.covered then none else some i } }

theorem acceptedEnd_eq (s : State) (r : FrameRecord) (now : Nat) (lows : List Low) :
    acceptedEnd s r now lows = { atFrameEnd s r now lows with
      outbox := { s.outbox with
        inFlight := none, renew := s.outbox.renew.bind fun i => if i.covered then none else some i
        census := if s.mode = .start ∧ s.joinCondition = false then queuedInto s.outbox.census else s.outbox.census }
      censusRetry := if s.mode = .start ∧ s.joinCondition = false then none else s.censusRetry } := by
  by_cases h : s.mode = .start ∧ s.joinCondition = false
  · simp [acceptedEnd, joinCensus, h, queueIntent, Outbox.put, Outbox.get, mergeQueued_eq, atFrameEnd]
  · simp only [acceptedEnd, joinCensus, h, if_false]
    rfl

theorem acceptedEnd_station (s : State) (r : FrameRecord) (now : Nat) (lows : List Low) :
    (acceptedEnd s r now lows).mode = s.mode ∧ (acceptedEnd s r now lows).droopHold = s.droopHold ∧
    (acceptedEnd s r now lows).holding = s.holding ∧ (acceptedEnd s r now lows).level = s.level ∧
    (acceptedEnd s r now lows).outbox.inFlight = none ∧ (acceptedEnd s r now lows).outbox.yield = s.outbox.yield ∧
    (acceptedEnd s r now lows).outbox.claim = s.outbox.claim := by
  rw [acceptedEnd_eq]
  exact ⟨rfl, rfl, rfl, rfl, rfl, rfl, rfl⟩

theorem exec_ownFrame_accepted (hr : s.followed = some r) (hrole : r.role = .sender) (hsent : r.sent = some sent)
    (hreach : reaches r reached now raw lows) (hend : 1010 ≤ now) (hm : r.mismatchBy sent now lows = none)
    (hvoid : r.voidSample.getD (voidSeen lows) = false)
    (hack : r.ackSample.getD (ackSeen lows) = true ∨ s.record.lone = true) (hf : s.outbox.inFlight = some f) :
    exec (.ownFrameOutcome ⟨reached, raw, .nothing⟩) s =
      .next (acceptOwnFrame sent.fields (acceptedEnd s r now lows)) := by
  have hf' : (atFrameEnd s r now lows).outbox.inFlight = some f := hf
  rw [exec_ownFrame_end hr hrole hsent hreach hend (not_lost_of_none hm) (outcomeOf_accepted hm hvoid hack),
    takeOutcome_accepted hf']
  rfl

end

/-- Settles O38: the acceptance of a YIELD or RENEW renews the lease and has no other effect. -/
theorem acceptedFrameRenewsTheLease : Obligations.AcceptedFrameRenewsTheLease := by
  intro reached now raw lows r sent f s hr hrole hsent hkind hreach hend hm hvoid hack hf
  dsimp only
  rw [exec_ownFrame_accepted hr hrole hsent hreach hend hm hvoid hack hf, acceptedEnd_eq]
  rcases hkind with hk | hk <;> simp only [acceptOwnFrame, hk]

/-! ### The entry to LEARNING -/

section
variable (carried : Nat) (s : State)

/-- The station that has entered LEARNING, before its roster's pass (R128). -/
def learningState (s : State) : State :=
  { s with
    mode := .learning, windowCap := some 0, highTime := 0, joinCondition := false, censusRetry := none
    outbox := (s.outbox.cancel fun k => decide (k = .census)).put .census none }

theorem enterLearning_cases :
    (enterLearning carried s = ownPass s (learningState s) ∧ (enterLearning carried s).advertised = carried) ∨
    enterLearning carried s = demandNotice (ownPass s (learningState s)) := by
  show (ite _ _ _ = _ ∧ (ite _ _ _ : State).advertised = _) ∨ ite _ _ _ = _
  split
  · exact .inr rfl
  next h => exact .inl ⟨rfl, by simpa using h⟩

theorem enterLearning_census : (enterLearning carried s).outbox.census = none := by
  have h : (ownPass s (learningState s)).outbox.census = none := (ownPass_outbox s (learningState s)).1
  rcases enterLearning_cases carried s with ⟨e, -⟩ | e <;> rw [e]
  · exact h
  · rw [(demandNotice_outbox _).1, h]

theorem enterLearning_inFlight {s : State} (h : s.outbox.inFlight = none) :
    (enterLearning carried s).outbox.inFlight = none := by
  have h : (ownPass s (learningState s)).outbox.inFlight = none :=
    (ownPass_outbox s (learningState s)).2 (by simp [learningState, Outbox.put, Outbox.cancel, h])
  rcases enterLearning_cases carried s with ⟨e, -⟩ | e <;> rw [e]
  · exact h
  · rw [(demandNotice_outbox _).2, h]

theorem enterLearning_advertised :
    (enterLearning carried s).advertised = if s.droopHold then 0 else s.requested := by
  cases hd : s.droopHold <;> simp [State.advertised, Mode.advertises, hd]

/-- A demand that is not the one carried is announced (R86, R128). -/
theorem enterLearning_announcing {carried : Nat} {s : State} (h : (enterLearning carried s).advertised ≠ carried) :
    announcing (enterLearning carried s).outbox := by
  rcases enterLearning_cases carried s with ⟨-, e⟩ | e
  · exact absurd e h
  · rw [e]; exact demandNotice_announcing _

theorem enterLearning_holding_le : (enterLearning carried s).holding ≤ s.holding := by
  rcases enterLearning_cases carried s with ⟨e, -⟩ | e <;> rw [e]
  · exact ownPass_holding_le _ _
  · rw [demandNotice_holding]; exact ownPass_holding_le _ _

theorem enterLearning_allocatorOnly : allocatorOnly { s with
    mode := .learning, windowCap := some 0, highTime := 0, joinCondition := false, censusRetry := none }
    (enterLearning carried s) := by
  have h := (allocatorOnly.outbox (s := { s with
    mode := .learning, windowCap := some 0, highTime := 0, joinCondition := false, censusRetry := none })
    (learningState s).outbox).ownPass s
  rcases enterLearning_cases carried s with ⟨e, -⟩ | e <;> rw [e]
  · exact h
  · exact h.demandNotice

end

/-- Settles O40: the entry to LEARNING, with the demand announced when it is not the one carried. -/
theorem acceptedCensusEntersLearning : Obligations.AcceptedCensusEntersLearning := by
  intro reached now raw lows r sent f s hr hrole hsent hkind hreach hend hm hvoid hack hf
  have hexec := exec_ownFrame_accepted hr hrole hsent hreach hend hm hvoid hack hf
  simp only [acceptOwnFrame, hkind] at hexec
  have hmode : (acceptedEnd s r now lows).mode = s.mode := by rw [acceptedEnd_eq]; rfl
  refine ⟨fun hentry hh hheld => ?_, fun hstart hiso => ⟨_, hexec, ?_⟩⟩
  · rw [hmode, if_pos hentry, acceptedEnd_eq] at hexec
    refine ⟨_, hexec, enterLearning_census _ _, enterLearning_inFlight _ rfl, ?_, ?_, fun h => ?_, ?_⟩
    · exact Nat.le_zero.1 (Nat.le_trans (enterLearning_holding_le _ _) (Nat.le_of_eq hh))
    · exact enterLearning_advertised _ _
    · exact enterLearning_announcing h
    · exact enterLearning_allocatorOnly _ _
  · rw [hmode, if_neg (by simp [hstart, hiso]), acceptedEnd_eq]
    simp [hstart, atFrameEnd]

/-! ### The claimed value -/

section
variable {s : State} {v : Nat} (b : Bool)

/-- The station that takes a claimed value (R59): the holding, what the roster hands on, one recompute. -/
def takeClaimed (b : Bool) (v : Nat) (s : State) : State :=
  recompute (beginOvercommit b (liftSuppression (setHolding v s)))

theorem takeClaimed_holding : (takeClaimed b v s).holding = min v (takeClaimed b v s).target := by
  simp [takeClaimed]

theorem takeClaimed_target : (takeClaimed b v s).target = (takeClaimed b v s).fairTarget := by
  rw [takeClaimed, recompute_fairTarget, recompute_target]

theorem takeClaimed_outputInv (hv : s.holding < v) (hl : s.level ≤ s.holding) : (takeClaimed b v s).OutputInv := by
  refine recompute_outputInv ?_
  have hset : setHolding v s = latchEvent .output { s with holding := v, rampTarget := v } := by
    rw [setHolding, if_neg (by omega)]
    exact if_neg (by simp; omega)
  refine ⟨?_, ?_⟩
  · simp [hset]
  · simp [hset]; omega

theorem takeClaimed_latched (hv : s.holding ≠ v) : (takeClaimed b v s).latched .output = true :=
  recompute_latched (beginOvercommit_latched _ (setHolding_latched_output hv.symm))

theorem takeClaimed_inFlight (h : s.outbox.inFlight = none) : (takeClaimed b v s).outbox.inFlight = none := by
  rw [takeClaimed, (recompute_outbox _).2.2.1]
  exact (beginOvercommit_outbox _ _).2.2.2 (by simpa using h)

theorem takeClaimed_yield (h : (takeClaimed b v s).target < v) : (takeClaimed b v s).outbox.yield.isSome = true := by
  rw [takeClaimed, recompute_target] at h
  rw [takeClaimed, recompute_yields (by simpa using h)]
  rfl

theorem takeClaimed_allocatorOnly : allocatorOnly s (takeClaimed b v s) :=
  ((allocatorOnly.rfl.setHolding v).liftSuppression.beginOvercommit b).recompute

/-- An accepted CLAIM in MEMBER with droop hold clear (R59). -/
theorem acceptOwnFrame_claim {f : FrameFields} (hk : f.kind = .claim) (hm : s.mode = .member)
    (hd : s.droopHold = false) (hh : f.holding ≠ s.holding) :
    acceptOwnFrame f s =
      takeClaimed s.overcommitted f.holding { s with ownAge := 0, renewTimer := .running 0 } := by
  have hh' : ¬ (setHolding f.holding { s with ownAge := 0, renewTimer := .running 0 }).holding = s.holding := by
    simpa using hh
  have hc : (decide (s.mode = .member) && !s.droopHold) = true := by simp [hm, hd]
  simp only [acceptOwnFrame, hk, hc, if_true, hh', if_false]
  rfl

/-- Any other accepted CLAIM leaves the holding to a YIELD (R60). -/
theorem acceptOwnFrame_claim_late {f : FrameFields} (hk : f.kind = .claim)
    (h : s.mode ≠ .member ∨ s.droopHold = true) :
    acceptOwnFrame f s = queueIntent .yield { s with ownAge := 0, renewTimer := .running 0 } := by
  have h' : (decide (s.mode = .member) && !s.droopHold) = false := by
    rcases h with h | h <;> simp [h]
  simp only [acceptOwnFrame, hk, h', Bool.false_eq_true, if_false]

end

/-- Settles O39: the claimed value, which the recompute may only lower to the target, or a YIELD. -/
theorem acceptedClaimTakesTheClaimedValue : Obligations.AcceptedClaimTakesTheClaimedValue := by
  intro reached now raw lows r sent f s hr hrole hsent hkind hreach hend hm hvoid hack hf
  have hexec := exec_ownFrame_accepted hr hrole hsent hreach hend hm hvoid hack hf
  obtain ⟨qmode, qdroop, qholding, qlevel, qflight, qyield, qclaim⟩ := acceptedEnd_station s r now lows
  refine ⟨fun hmode hdroop hlt hlevel => ?_, fun hno => ?_⟩
  · rw [acceptOwnFrame_claim hkind (qmode.trans hmode) (qdroop.trans hdroop)
      (by rw [qholding]; exact Nat.ne_of_gt hlt)] at hexec
    have hinv := takeClaimed_outputInv (s := { acceptedEnd s r now lows with ownAge := 0, renewTimer := .running 0 })
      (acceptedEnd s r now lows).overcommitted (Nat.lt_of_le_of_lt (Nat.le_of_eq qholding) hlt)
      (by simpa only [qlevel, qholding] using hlevel)
    refine ⟨_, hexec, takeClaimed_target _, takeClaimed_holding _, hinv.1, hinv.2,
      takeClaimed_latched _ (by simpa only [qholding] using Nat.ne_of_lt hlt), takeClaimed_inFlight _ qflight,
      takeClaimed_yield _, ?_⟩
    refine allocatorOnly.trans ?_ (takeClaimed_allocatorOnly _)
    rw [acceptedEnd_eq]
    simp only [hmode, reduceCtorEq, false_and, if_false]
    exact allocatorOnly.outbox _
  · rw [acceptOwnFrame_claim_late hkind (by rwa [qmode, qdroop])] at hexec
    refine ⟨_, hexec, ?_, ?_, ?_, ?_⟩
    · simp [Outbox.put, Outbox.get, mergeQueued_eq, qyield]
    · simp [Outbox.put, qflight]
    · simp [Outbox.put, qclaim]
    · rw [acceptedEnd_eq]
      rfl

end Sys2Proof.Machine
end

section
/-! The own holding rises at the acceptance of an own CLAIM alone (R7, R59): every other effect leaves it or lowers it. -/

namespace Sys2Proof.Machine

theorem setRequested_holding_le (r : Nat) (s : State) : (setRequested r s).holding ≤ s.holding := by
  unfold setRequested
  split
  · exact Nat.le_refl _
  · simpa using ownPass_holding_le s (liftSuppression { s with requested := r })

theorem entryPass_holding_le (before s : State) : (entryPass before s).holding ≤ s.holding := by
  unfold entryPass
  split <;> simp

@[simp] theorem enterStart_holding (s : State) : (enterStart s).holding = 0 := by simp [enterStart]
@[simp] theorem wakeStation_holding (s : State) : (wakeStation s).holding = 0 := by simp [wakeStation]
@[simp] theorem enterDormant_holding (s : State) : (enterDormant s).holding = 0 := by simp [enterDormant]

@[simp] theorem enterIsolated_holding (relearn : Bool) (s : State) : (enterIsolated relearn s).holding = 0 := by
  refine Nat.le_zero.1 (Nat.le_trans (entryPass_holding_le _ _) ?_)
  split <;> simp

@[simp] theorem enterMute_holding (s : State) : (enterMute s).holding = 0 :=
  Nat.le_zero.1 (Nat.le_trans (entryPass_holding_le _ _) (by simp))

theorem enterFault_holding_le (cause : FaultCause) (s : State) : (enterFault cause s).holding ≤ s.holding := by
  unfold enterFault
  split
  · exact Nat.le_refl _
  · refine Nat.le_trans (entryPass_holding_le _ _) ?_
    split <;> simp

theorem enterMember_holding_le (s : State) : (enterMember s).holding ≤ s.holding := by
  unfold enterMember
  dsimp only
  split <;> simp

theorem applyFrame_holding_le (f : FrameFields) (s : State) : (applyFrame f s).holding ≤ s.holding := by
  unfold applyFrame rosterPass
  dsimp only
  split
  · simp
  · split <;> simp

theorem assertDroop_holding (s : State) : (assertDroop s).holding = 0 := by
  refine Nat.le_zero.1 ?_
  rw [assertDroop, latchEvent_holding, announceDemand_holding]
  refine Nat.le_trans (ownPass_holding_le _ _) ?_
  split <;> simp

theorem clearDroopHold_holding_le (s : State) : (clearDroopHold s).holding ≤ s.holding := by
  rw [clearDroopHold, renewOnRise_holding, announceDemand_holding]
  exact entryPass_holding_le _ _

/-- Every effect but the end of an own frame keeps a bound on the holding. -/
theorem holding_le_kept (n : Nat) : KeptUntilEnd (fun t => t.holding ≤ n) where
  port _ _ _ _ _ _ _ h := h
  timers _ _ _ _ _ h := h
  line _ _ _ _ _ h := h
  queue _ _ h := h
  demand _ _ h := Nat.le_trans (setRequested_holding_le _ _) h
  wake _ _ := by simp
  start _ _ := by simp
  sleep _ _ := by simp
  isolate _ _ _ := by simp
  fault _ _ h := Nat.le_trans (enterFault_holding_le _ _) h
  mute _ _ := by simp
  member _ h := Nat.le_trans (enterMember_holding_le _) h
  serve _ _ _ h := by simpa using h
  ownBreak _ _ h := h
  cut _ h := by split <;> simpa using h
  lose _ _ _ _ h := by simpa using h
  follow _ _ _ _ h := by simpa using h
  send _ _ _ _ _ _ h := h
  known _ _ _ h := by simpa using h
  apply _ _ _ _ _ _ h := Nat.le_trans (applyFrame_holding_le _ _) (by simpa using h)
  lapse _ _ h := by
    unfold lapseEntry
    split
    · exact h
    · simpa [rosterPass] using .inl h
  remove _ _ h := by simpa [removeEntry, rosterPass] using .inl h
  lift _ h := by simpa using .inl h
  ramp _ h := h
  settle _ h := h
  under _ _ h := by rw [judgeUnder_writes]; exact h
  overdraw _ _ h := h
  droop _ _ := by simp [assertDroop_holding]
  recover _ h := Nat.le_trans (clearDroopHold_holding_le _) h

/-- An acceptance raises the holding by a CLAIM in MEMBER with droop hold clear alone, and not above the claim (R59,
R60). -/
theorem acceptOwnFrame_holding {f : FrameFields} {s : State} (h : s.holding < (acceptOwnFrame f s).holding) :
    f.kind = .claim ∧ s.mode = .member ∧ s.droopHold = false ∧ (acceptOwnFrame f s).holding ≤ f.holding := by
  cases hk : f.kind with
  | claim =>
    by_cases hc : s.mode ≠ .member ∨ s.droopHold = true
    · rw [acceptOwnFrame_claim_late hk hc] at h
      exact absurd h (Nat.lt_irrefl _)
    · simp only [not_or, not_not, Bool.not_eq_true] at hc
      by_cases hh : f.holding = s.holding
      · simp only [acceptOwnFrame, hk, hc, hh] at h
        rw [setHolding_same (by rfl)] at h
        simp at h
      · rw [acceptOwnFrame_claim hk hc.1 hc.2 hh, takeClaimed_holding]
        exact ⟨rfl, hc.1, hc.2, Nat.min_le_left _ _⟩
  | census =>
    simp only [acceptOwnFrame, hk] at h
    split at h
    · exact absurd (Nat.lt_of_lt_of_le h (enterLearning_holding_le _ _)) (Nat.lt_irrefl _)
    · exact absurd h (Nat.lt_irrefl _)
  | yield => simp [acceptOwnFrame, hk] at h
  | renew => simp [acceptOwnFrame, hk] at h

theorem joinCensus_station (s t : State) :
    (joinCensus s t).holding = t.holding ∧ (joinCensus s t).mode = t.mode ∧
    (joinCensus s t).droopHold = t.droopHold := by
  rw [joinCensus_eq]
  exact ⟨rfl, rfl, rfl⟩

/-- So does the whole end of an own frame, whatever its outcome. -/
theorem settleOwn_holding {sent : SentFrame} {out : FrameOutcome} {s t : State}
    (h : t.holding < (settleOwn sent out (joinCensus s t)).holding) :
    out = .accepted ∧ sent.fields.kind = .claim ∧ t.mode = .member ∧ t.droopHold = false ∧
      (settleOwn sent out (joinCensus s t)).holding ≤ sent.fields.holding := by
  obtain ⟨hh, hm, hd⟩ := joinCensus_station s t
  rw [← hh] at h
  rw [← hm, ← hd]
  cases out with
  | accepted => exact ⟨rfl, acceptOwnFrame_holding h⟩
  | clash => exact absurd (Nat.lt_of_lt_of_le h (enterFault_holding_le _ _)) (Nat.lt_irrefl _)
  | voided => exact absurd h (Nat.lt_irrefl _)
  | unheard => exact absurd h (Nat.lt_irrefl _)
  | lost => exact absurd h (Nat.lt_irrefl _)

/-- An own frame that raises the holding has come to its end as an accepted CLAIM (R59). -/
theorem ownTo_holding {s : State} {r : FrameRecord} {sent : SentFrame} {now : Nat} {lows : List Low}
    (hr : s.followed = some r) (hrole : r.role = .sender) (h : s.holding < (ownTo r sent now lows s).holding) :
    s.mode = .member ∧ s.droopHold = false ∧ sent.fields.kind = .claim ∧ breakInside now lows = none ∧ 1010 ≤ now ∧
      r.mismatchBy sent now lows = none ∧ r.voidSample.getD (voidSeen lows) = false ∧
      (r.ackSample.getD (ackSeen lows) = true ∨ s.record.lone = true) ∧
      (ownTo r sent now lows s).holding ≤ sent.fields.holding := by
  rcases (holding_le_kept s.holding).ownTo_or (sent := sent) now lows hr hrole (Nat.le_refl _) with
    hle | ⟨r', hbreak, hend, hframe, -, hrole', -, -, -⟩
  · exact absurd (Nat.lt_of_lt_of_le h hle) (Nat.lt_irrefl _)
  have hlost : ∀ k, r.mismatchBy sent now lows ≠ some (.lost, k) := by
    intro k hk
    rw [sendTo, hk] at hframe
    obtain rfl := Option.some.inj hframe
    revert hrole'
    dsimp only
    split <;> nofun
  have hown := ownTo_end hr hrole hbreak hend hlost
  dsimp only at hown
  have hmode : ∀ out, (takeOutcome out (atFrameEnd s r now lows)).mode = s.mode := fun out => takeOutcome_mode _ _
  have hdroop : ∀ out, (takeOutcome out (atFrameEnd s r now lows)).droopHold = s.droopHold :=
    fun out => takeOutcome_droopHold _ _
  have hholding : ∀ out, (takeOutcome out (atFrameEnd s r now lows)).holding = s.holding :=
    fun out => takeOutcome_holding _ _
  rw [hown] at h ⊢
  obtain ⟨hout, hkind, hm, hd, hle⟩ := settleOwn_holding (Nat.lt_of_le_of_lt (Nat.le_of_eq (hholding _)) h)
  obtain ⟨hmis, hvoid, hack⟩ := outcomeOf_eq_accepted hout
  exact ⟨(hmode _).symm.trans hm, (hdroop _).symm.trans hd, hkind, hbreak, hend, hmis, hvoid, hack, hle⟩

theorem ownFrameOutcome_holding {s : State} {reached : Nat} {raw : List Low}
    (h : s.holding < (ownFrameOutcome reached raw s).holding) :
    s.mode = .member ∧ s.droopHold = false ∧ ∃ now lows r f, s.followed = some r ∧ r.role = .sender ∧
      r.sent = some f ∧ f.fields.kind = .claim ∧ reaches r reached now raw lows ∧ 1010 ≤ now ∧
      r.mismatchBy f now lows = none ∧ r.voidSample.getD (voidSeen lows) = false ∧
      (r.ackSample.getD (ackSeen lows) = true ∨ s.record.lone = true) ∧
      (ownFrameOutcome reached raw s).holding ≤ f.fields.holding := by
  have heq : ∀ r sent, s.followed = some r → r.role = .sender → r.sent = some sent →
      ownFrameOutcome reached raw s = ownTo r sent (max r.elapsed reached) (filterLows raw) s := by
    intro r sent hr hrole hsent
    simp only [ownFrameOutcome, hr, hrole, hsent]
  cases hr : s.followed with
  | none => simp [ownFrameOutcome, hr] at h
  | some r =>
    by_cases hs : r.role = .sender ∧ ∃ sent, r.sent = some sent
    · obtain ⟨hrole, sent, hsent⟩ := hs
      rw [heq r sent hr hrole hsent] at h ⊢
      obtain ⟨hm, hd, hkind, hbreak, hrest⟩ := ownTo_holding hr hrole h
      exact ⟨hm, hd, _, _, r, sent, rfl, hrole, hsent, hkind, ⟨rfl, rfl, hbreak⟩, hrest⟩
    · rw [ownFrameOutcome, hr] at h
      dsimp only at h
      split at h
      next sent hrole hsent => exact absurd ⟨hrole, sent, hsent⟩ hs
      · exact absurd h (Nat.lt_irrefl _)

/-- What is taken behind an outcome raises no holding: the outcome itself has raised it, with the renew timer due or as
it stands (R101). -/
theorem outcomeWith_holding {behind : Behind} {reached : Nat} {lows : List Low} {s : State}
    (h : s.holding < (outcomeWith behind (ownFrameOutcome reached lows) s).holding) :
    ∃ timer, (outcomeWith behind (ownFrameOutcome reached lows) s).holding =
      (ownFrameOutcome reached lows { s with renewTimer := timer }).holding := by
  cases behind with
  | nothing => exact ⟨s.renewTimer, rfl⟩
  | renewTimer =>
    rcases withRenewBehind_cases (ownFrameOutcome reached lows) s with e | e | e
    · exact ⟨s.renewTimer, congrArg State.holding e⟩
    · exact ⟨.due, congrArg State.holding e⟩
    · exact ⟨.due, (congrArg State.holding e).trans (queueIntent_holding _ _)⟩
  | selfLease =>
    rcases withSelfLeaseBehind_cases (ownFrameOutcome reached lows) s with e | ⟨-, -, e⟩
    · exact ⟨s.renewTimer, congrArg State.holding e⟩
    · simp [outcomeWith, e] at h

/-- Settles O59: every command but an own frame's keeps the holding from rising, and an own frame raises it by its
accepted CLAIM alone. -/
theorem onlyAnAcceptedClaimRaisesTheHolding : Obligations.OnlyAnAcceptedClaimRaisesTheHolding := by
  intro c s t ht hlt
  have absurd_of_le {p : Prop} (hle : t.holding ≤ s.holding) : p := absurd hlt (Nat.not_lt.2 hle)
  by_cases hc : c = .reset ∨ (∃ pins, c = .readEvent pins) ∨ c = .programWriteComplete
  · rcases hc with rfl | ⟨pins, rfl⟩ | rfl <;> obtain rfl := Host.Outcome.next.inj ht
    · exact absurd_of_le (by rw [holdReset_eq]; exact Nat.zero_le _)
    · refine absurd_of_le ?_
      split
      · rcases releaseReset_cases pins s with ⟨-, e⟩ | ⟨-, e⟩ <;> rw [e] <;> simp [readState, State.reset]
      · exact Nat.le_refl _
    · exact absurd_of_le (by rw [completeWrite_eq])
  · simp only [not_or, not_exists] at hc
    by_cases hown : ∃ report, c = .ownFrameOutcome report
    · obtain ⟨⟨reached, raw, behind⟩, rfl⟩ := hown
      obtain rfl := Host.Outcome.next.inj ht
      obtain ⟨timer, e⟩ := outcomeWith_holding hlt
      rw [e] at hlt
      obtain ⟨hm, hd, now, lows, r, f, hr, hrole, hsent, hkind, hreach, hend, hmis, hvoid, hack, hle⟩ :=
        ownFrameOutcome_holding (s := { s with renewTimer := timer }) hlt
      exact ⟨hm, hd, reached, now, raw, lows, behind, r, f, rfl, hr, hrole, hsent, hkind, hreach, hend, hmis, hvoid,
        hack, Nat.le_trans (Nat.le_of_eq e) hle⟩
    · obtain ⟨u, hu, hle⟩ := (holding_le_kept s.holding).exec hc.1 hc.2.1 hc.2.2 (not_exists.1 hown) (Nat.le_refl _)
      exact absurd_of_le (Host.Outcome.next.inj (hu.symm.trans ht) ▸ hle)

end Sys2Proof.Machine
end

section
/-! The entries to ISOLATED, FAULT and MUTE (06 section 6.4, 09 sections 9.2 and 9.5): in each the load is shed and the
allocator finds nothing to do, so everything the entry writes can be said. RELEARN, the self lease and the lease clock's
own timers follow. -/

namespace Sys2Proof.Machine

/-! ### The one recompute of an entry -/

/-- With nothing held and nothing advertised the pass of an entry sets the target to 0, and lifts suppression where the
own entry changed (R37). -/
theorem entryPass_idle {before s : State} (hr : findEntry s.address s.replicas = none) (hh : s.holding = 0)
    (hd : s.advertised = 0) :
    entryPass before s = { s with
      target := 0, suppression := if ownChanged before s then none else s.suppression } := by
  unfold entryPass
  split
  next hc => exact recompute_idle (s := liftSuppression s) hr hh hd
  · rw [recompute_idle hr hh hd]

theorem advertised_of_silent_mode {s : State} (h : s.mode.advertises = false) : s.advertised = 0 := by
  simp [State.advertised, h]

/-- The load is shed: the ramp and the level fall with the holding (R137). -/
theorem setHolding_zero {s : State} (h : s.OutputInv) :
    (setHolding 0 s).rampTarget = 0 ∧ (setHolding 0 s).level = 0 := by
  obtain ⟨hr, hl⟩ := setHolding_output h 0
  exact ⟨hr, by omega⟩

theorem setHolding_zero_latched {s : State} (h : 0 < s.holding) : (setHolding 0 s).latched .output = true :=
  setHolding_latched_output (by omega)

theorem Outbox.clear_cancelled (o : Outbox) : ∀ f ∈ o.clear.inFlight, f.cancelled = true := by
  intro f hf
  cases hi : o.inFlight with
  | none => simp [Outbox.clear, Outbox.cancel, hi] at hf
  | some g =>
    simp only [Outbox.clear, Outbox.cancel, hi] at hf
    obtain rfl := Option.some.inj hf
    rfl

/-! ### ISOLATED -/

/-- The station on its way to ISOLATED, with its load shed and its outbox down to what the entry queues (R98, R111). -/
def isolating (relearn : Bool) (s : State) : State :=
  let s1 := clearOutbox (setHolding 0
    { s with mode := .isolated, windowCap := none, muteWait := none, joinCondition := false })
  latchEvent .isolated (queueIntent .census
    (if relearn && decide (0 < s.holding) then queueIntent .yield s1 else s1))

section
variable (relearn : Bool) (s : State)

theorem isolating_outbox : (isolating relearn s).outbox = { s.outbox.clear with
      yield := if relearn && decide (0 < s.holding) then some ⟨0, false, false⟩ else none
      census := some ⟨0, false, false⟩ } := by
  unfold isolating
  dsimp only
  split <;> simp [Outbox.put, Outbox.get, Outbox.clear, Outbox.empty, Outbox.cancel, mergeQueued, Intent.new]

theorem isolating_level :
    (isolating relearn s).level = (setHolding 0 { s with
      mode := .isolated, windowCap := none, muteWait := none, joinCondition := false }).level ∧
    (isolating relearn s).rampTarget = (setHolding 0 { s with
      mode := .isolated, windowCap := none, muteWait := none, joinCondition := false }).rampTarget := by
  unfold isolating
  dsimp only
  split <;> simp

theorem isolating_latched :
    (isolating relearn s).latched .isolated = true ∧
    (0 < s.holding → (isolating relearn s).latched .output = true) := by
  refine ⟨latchEvent_latched_self, fun h => latchEvent_latched _ ?_⟩
  have hset := setHolding_zero_latched (s := { s with
    mode := .isolated, windowCap := none, muteWait := none, joinCondition := false }) h
  rw [latched_congr (queueIntent_latch _ _)]
  split
  · rwa [latched_congr (queueIntent_latch _ _), latched_congr (clearOutbox_latch _)]
  · rwa [latched_congr (clearOutbox_latch _)]

theorem isolating_frame : allocatorOnly { s with
      mode := .isolated, censusRetry := none, windowCap := none, muteWait := none, joinCondition := false }
    (isolating relearn s) := by
  unfold isolating
  dsimp only
  split <;> (apply State.ext <;> simp)

theorem isolating_station :
    (isolating relearn s).mode = .isolated ∧ (isolating relearn s).holding = 0 ∧
    (isolating relearn s).address = s.address ∧ (isolating relearn s).replicas = s.replicas := by
  unfold isolating
  dsimp only
  split <;> simp

variable {s}

/-- The entry to ISOLATED, whole (R111). -/
theorem enterIsolated_eq (hr : s.RosterInv) :
    enterIsolated relearn s = { isolating relearn s with
      target := 0
      suppression := if ownChanged s (isolating relearn s) then none else (isolating relearn s).suppression } := by
  obtain ⟨hm, hh, ha, hp⟩ := isolating_station relearn s
  have hown : findEntry (isolating relearn s).address (isolating relearn s).replicas = none := by
    rw [ha, hp]; exact hr.2
  show entryPass s (isolating relearn s) = _
  exact entryPass_idle hown hh (advertised_of_silent_mode (by rw [hm]; rfl))

/-- What every entry to ISOLATED leaves, from the state `s` it is entered from (R98, R111). -/
def isolatedEntered (relearn : Bool) (s t : State) : Prop :=
  t.mode = .isolated ∧ t.holding = 0 ∧ t.rampTarget = 0 ∧ t.level = 0 ∧ t.target = 0 ∧ t.advertised = 0 ∧
  outboxHolds t.outbox (if relearn && decide (0 < s.holding) then some ⟨0, false, false⟩ else none) none none
    (some ⟨0, false, false⟩) false ∧
  (∀ f ∈ t.outbox.inFlight, f.cancelled = true) ∧ t.latched .isolated = true ∧
  (0 < s.holding → t.latched .output = true) ∧ t.censusRetry = none ∧
  allocatorOnly { s with
    mode := .isolated, censusRetry := none, windowCap := none, muteWait := none, joinCondition := false } t

theorem enterIsolated_entered (ho : s.OutputInv) (hr : s.RosterInv) :
    isolatedEntered relearn s (enterIsolated relearn s) := by
  obtain ⟨hm, hh, -, -⟩ := isolating_station relearn s
  obtain ⟨hlevel, hramp⟩ := isolating_level relearn s
  obtain ⟨hramp', hlevel'⟩ := setHolding_zero (s := { s with
    mode := .isolated, windowCap := none, muteWait := none, joinCondition := false }) ho
  obtain ⟨hiso, hout⟩ := isolating_latched relearn s
  have hframe := isolating_frame relearn s
  rw [enterIsolated_eq relearn hr]
  refine ⟨hm, hh, hramp.trans hramp', hlevel.trans hlevel', rfl,
    advertised_of_silent_mode (by rw [show State.mode _ = _ from hm]; rfl), ?_, ?_, hiso, hout, ?_,
    hframe.trans (Eq.refl _)⟩
  · simp [outboxHolds, isolating_outbox, Outbox.clear, Outbox.empty]
  · dsimp only
    rw [isolating_outbox]
    exact s.outbox.clear_cancelled
  · exact congrArg State.censusRetry hframe

end

/-! ### The receiver of nothing more -/

/-- Leaving the listening states, as the statements write it (R42). -/
theorem receivesNoMore_eq (s : State) : receivesNoMore s = demoteReceiver s := by
  have hrole : onlookerRole = Role.demote := by funext role; cases role <;> rfl
  cases hl : s.lineLow with
  | none => simp [receivesNoMore, demoteReceiver, hrole, hl]
  | some l => cases l <;> simp [receivesNoMore, demoteReceiver, hrole, hl, LineLow.demote]

/-! ### FAULT -/

/-- The station on its way to FAULT, with its load shed and its outbox down to a YIELD (R99, R151). -/
def faulting (cause : FaultCause) (s : State) : State :=
  let s1 := setHolding 0 (demoteReceiver
    { s with mode := .fault, faultCause := cause, windowCap := none, muteWait := none, joinCondition := false })
  let s2 := { s1 with outbox := s1.outbox.keepYield, censusRetry := none }
  latchEvent .fault (if 0 < s.holding then queueIntent .yield s2 else s2)

section
variable (cause : FaultCause) (s : State)

theorem faulting_outbox : (faulting cause s).outbox = { s.outbox.keepYield with
      yield := if 0 < s.holding then queuedInto s.outbox.yield else s.outbox.yield } := by
  unfold faulting
  dsimp only
  split <;> simp [Outbox.put, Outbox.get, Outbox.keepYield, Outbox.cancel, mergeQueued_eq]

theorem faulting_level :
    (faulting cause s).level = (setHolding 0 (demoteReceiver { s with
      mode := .fault, faultCause := cause, windowCap := none, muteWait := none, joinCondition := false })).level ∧
    (faulting cause s).rampTarget = (setHolding 0 (demoteReceiver { s with
      mode := .fault, faultCause := cause, windowCap := none, muteWait := none
      joinCondition := false })).rampTarget := by
  unfold faulting
  dsimp only
  split <;> simp

theorem faulting_latched :
    (faulting cause s).latched .fault = true ∧ (0 < s.holding → (faulting cause s).latched .output = true) := by
  refine ⟨latchEvent_latched_self, fun h => latchEvent_latched _ ?_⟩
  have hset := setHolding_zero_latched (s := demoteReceiver { s with
    mode := .fault, faultCause := cause, windowCap := none, muteWait := none, joinCondition := false }) h
  split
  · rwa [latched_congr (queueIntent_latch _ _)]
  · exact hset

theorem faulting_frame : allocatorOnly (receivesNoMore { s with
      mode := .fault, faultCause := cause, windowCap := none, muteWait := none, joinCondition := false
      censusRetry := none }) (faulting cause s) := by
  rw [receivesNoMore_eq]
  unfold faulting
  dsimp only
  split <;> (apply State.ext <;> simp)

theorem faulting_station :
    (faulting cause s).mode = .fault ∧ (faulting cause s).holding = 0 ∧
    (faulting cause s).address = s.address ∧ (faulting cause s).replicas = s.replicas := by
  unfold faulting
  dsimp only
  split <;> simp

variable {s}

/-- The entry to FAULT, whole (R151). -/
theorem enterFault_eq (hm : s.mode ≠ .fault) (hr : s.RosterInv) :
    enterFault cause s = { faulting cause s with
      target := 0
      suppression := if ownChanged s (faulting cause s) then none else (faulting cause s).suppression } := by
  obtain ⟨hmode, hh, ha, hp⟩ := faulting_station cause s
  have hown : findEntry (faulting cause s).address (faulting cause s).replicas = none := by
    rw [ha, hp]; exact hr.2
  have henter : enterFault cause s = entryPass s (faulting cause s) := if_neg hm
  rw [henter]
  exact entryPass_idle hown hh (advertised_of_silent_mode (by rw [hmode]; rfl))

theorem enterFault_entered (hm : s.mode ≠ .fault) (ho : s.OutputInv) (hr : s.RosterInv) :
    faultEntered cause s (enterFault cause s) := by
  obtain ⟨hmode, hh, -, -⟩ := faulting_station cause s
  obtain ⟨hlevel, hramp⟩ := faulting_level cause s
  obtain ⟨hramp', hlevel'⟩ := setHolding_zero (s := demoteReceiver { s with
    mode := .fault, faultCause := cause, windowCap := none, muteWait := none, joinCondition := false }) ho
  obtain ⟨hfault, hout⟩ := faulting_latched cause s
  rw [enterFault_eq cause hm hr]
  refine ⟨hh, hramp.trans hramp', hlevel.trans hlevel', rfl,
    advertised_of_silent_mode (by rw [show State.mode _ = _ from hmode]; rfl), ?_, ?_, hfault, hout,
    (faulting_frame cause s).trans (Eq.refl _)⟩
  · simp [outboxHolds, faulting_outbox, Outbox.keepYield, Outbox.cancel]
  · dsimp only
    rw [faulting_outbox]
    cases hi : s.outbox.inFlight with
    | none => simp [Outbox.keepYield, Outbox.cancel, hi]
    | some f => cases hk : f.kind <;> simp [Outbox.keepYield, Outbox.cancel, hi, hk]

end

/-! ### MUTE -/

/-- The station on its way to MUTE, with its load shed and its outbox cleared (R97, R156). -/
def muting (s : State) : State :=
  latchEvent .muted (clearOutbox (setHolding 0 (demoteReceiver
    { s with mode := .mute, muteWait := some 0, windowCap := none, joinCondition := false })))

/-- What every entry to MUTE leaves, from the state `s` it is entered from (R156). -/
def muteEntered (s t : State) : Prop :=
  t.holding = 0 ∧ t.level = 0 ∧ t.rampTarget = 0 ∧ t.target = 0 ∧ t.advertised = 0 ∧
  outboxHolds t.outbox none none none none false ∧ t.latched .muted = true ∧
  (0 < s.holding → t.latched .output = true) ∧
  allocatorOnly (receivesNoMore { s with
    mode := .mute, muteWait := some 0, windowCap := none, joinCondition := false, censusRetry := none }) t

theorem enterMute_entered {s : State} (ho : s.OutputInv) (hr : s.RosterInv) : muteEntered s (enterMute s) := by
  obtain ⟨hramp, hlevel⟩ := setHolding_zero (s := demoteReceiver { s with
    mode := .mute, muteWait := some 0, windowCap := none, joinCondition := false }) ho
  have hframe : allocatorOnly (receivesNoMore { s with
      mode := .mute, muteWait := some 0, windowCap := none, joinCondition := false, censusRetry := none })
      (muting s) := by
    rw [receivesNoMore_eq]
    unfold muting
    apply State.ext <;> simp
  have hmode : (muting s).mode = .mute := by simp [muting]
  have hown : findEntry (muting s).address (muting s).replicas = none := by simpa [muting] using hr.2
  have hadv : (muting s).advertised = 0 := advertised_of_silent_mode (by rw [hmode]; rfl)
  have henter : enterMute s = { muting s with
      target := 0, suppression := if ownChanged s (muting s) then none else (muting s).suppression } :=
    entryPass_idle (s := muting s) hown (by simp [muting]) hadv
  rw [henter]
  refine ⟨by simp [muting], by simpa [muting] using hlevel, by simpa [muting] using hramp, rfl, hadv, ?_,
    latchEvent_latched_self, fun h => ?_,
    hframe.trans (Eq.refl _)⟩
  · simp [outboxHolds, muting, Outbox.clear, Outbox.empty]
  · refine latchEvent_latched _ ?_
    rw [latched_congr (clearOutbox_latch _)]
    exact setHolding_zero_latched (s := demoteReceiver _) h

/-! ### RELEARN and the self lease -/

/-- Settles O18: in MEMBER and ISOLATED the entry to ISOLATED, elsewhere a refusal. -/
theorem relearnEntersIsolated : Obligations.RelearnEntersIsolated := by
  intro s hr hs
  refine ⟨fun hmode ho hroster => ?_, fun hm hi hd => ?_⟩
  · have hd : s.mode ≠ .dormant := by rcases hmode with h | h <;> simp [h]
    obtain ⟨hm, hh, hramp, hlevel, ht, ha, hbox, hflight, hiso, hout, hretry, hframe⟩ :=
      enterIsolated_entered true ho hroster
    have hexec : exec .relearn s = .next (answer .ok [] (enterIsolated true s)) := by
      show Host.Outcome.next (transaction relearnRequest s) = _
      rw [transaction_awake hr hs hd, relearnRequest, if_pos hmode]
    refine ⟨_, hexec, rfl, hm, hh, hramp, hlevel, ht, ha, by simpa using hbox, hflight, hiso, hout, hretry, ?_⟩
    exact congrArg (fun t => { t with reply := [1] }) hframe
  · show Host.Outcome.next (transaction relearnRequest s) = _
    rw [transaction_awake hr hs hd, relearnRequest, if_neg (by simp [hm, hi])]
    rfl

theorem selfLeaseDue_iff {s : State} :
    s.selfLeaseDue = true ↔ s.resetHeld = false ∧ s.mode = .member ∧ s.lease ≤ s.ownAge := by
  simp [State.selfLeaseDue, and_assoc]

theorem setHolding_withAge (v n : Nat) (s : State) :
    setHolding v { s with ownAge := n } = { setHolding v s with ownAge := n } := by
  unfold setHolding
  dsimp only
  split
  · rfl
  · split <;> rfl

/-- The own silence age has no part in an entry to ISOLATED (R110, R111). -/
theorem enterIsolated_withAge (relearn : Bool) (s : State) (n : Nat) :
    enterIsolated relearn { s with ownAge := n } = { enterIsolated relearn s with ownAge := n } := by
  have hiso : isolating relearn { s with ownAge := n } = { isolating relearn s with ownAge := n } := by
    unfold isolating
    dsimp only
    have hset := setHolding_withAge 0 n { s with
      mode := .isolated, windowCap := none, muteWait := none, joinCondition := false }
    dsimp only at hset
    rw [hset]
    split <;> rfl
  obtain ⟨hm, hh, -, -⟩ := isolating_station relearn s
  have hpass : ∀ before u : State, u.mode = .isolated → u.holding = 0 → entryPass before u = { u with
      target := u.fairTarget, suppression := if ownChanged before u then none else u.suppression } := by
    intro before u hu hu'
    unfold entryPass
    split
    · exact recompute_outside (s := liftSuppression u) (by simp [hu]) hu'
    · exact recompute_outside (by simp [hu]) hu'
  have hage : ∀ u : State, u.mode = .isolated → u.holding = 0 →
      entryPass { s with ownAge := n } { u with ownAge := n } = { entryPass s u with ownAge := n } := by
    intro u hu hu'
    rw [hpass _ { u with ownAge := n } hu hu', hpass s u hu hu',
      fairTarget_congr (s := u) (t := { u with ownAge := n }) rfl rfl rfl rfl rfl]
    rfl
  show entryPass { s with ownAge := n } (isolating relearn { s with ownAge := n }) = _
  rw [hiso]
  exact hage _ hm hh

/-- An own frame's outcome leaves the record and RESET as they were. -/
theorem ownFrameOutcome_store (reached : Nat) (raw : List Low) (s : State) :
    (ownFrameOutcome reached raw s).record = s.record ∧ (ownFrameOutcome reached raw s).resetHeld = s.resetHeld := by
  obtain ⟨t, ht, -, -, -, hrecord, -, hreset⟩ :=
    exec_sameStore (c := .ownFrameOutcome ⟨reached, raw, .nothing⟩) (by simp) (by simp) (by simp) s
  obtain rfl := Host.Outcome.next.inj ht
  exact ⟨hrecord, hreset⟩

/-- Settles O45: the entry to ISOLATED when the age has come to P in MEMBER, and the same entry behind an outcome. -/
theorem selfLeaseShedsTheLoad : Obligations.SelfLeaseShedsTheLoad := by
  intro s hr
  refine ⟨fun hm hage ho hroster => ⟨_, rfl, ?_⟩, fun h => ?_, fun reached raw t ht => ?_⟩
  · rw [takeSelfLease, if_pos (selfLeaseDue_iff.2 ⟨hr, hm, hage⟩)]
    obtain ⟨hm, hh, hramp, hlevel, ht, ha, hbox, hrest⟩ := enterIsolated_entered false ho hroster
    exact ⟨hm, hh, hramp, hlevel, ht, ha, by simpa using hbox, hrest.1, hrest.2.1, hrest.2.2.1, hrest.2.2.2.2⟩
  · show Host.Outcome.next (takeSelfLease s) = _
    rw [takeSelfLease, if_neg]
    rw [selfLeaseDue_iff]
    rintro ⟨-, hm, hage⟩
    rcases h with h | h
    · exact h hm
    · omega
  obtain rfl : ownFrameOutcome reached raw s = t := Host.Outcome.next.inj ht
  have hbehind : exec (.ownFrameOutcome ⟨reached, raw, .selfLease⟩) s =
      .next (withSelfLeaseBehind (ownFrameOutcome reached raw) s) := rfl
  rw [hbehind, withSelfLeaseBehind]
  obtain ⟨hrecord, hreset⟩ := ownFrameOutcome_store reached raw s
  generalize ownFrameOutcome reached raw s = t at hrecord hreset ⊢
  refine ⟨fun hm hage hsend hsent ht => ⟨enterIsolated false t, ?_, enterIsolated_mode _ _, by simp, ?_⟩, fun h => ?_⟩
  · rw [if_pos]
    simp [selfLeaseDue_iff.2 ⟨hr, hm, hage⟩, hsend, hsent, ht]
  · show Host.Outcome.next (takeSelfLease { t with ownAge := s.ownAge }) = _
    have hlease : t.lease = s.lease := by simp only [State.lease, hrecord]
    have hdue : State.selfLeaseDue { t with ownAge := s.ownAge } = true :=
      selfLeaseDue_iff.2 ⟨hreset.trans hr, ht, Nat.le_trans (Nat.le_of_eq hlease) hage⟩
    rw [takeSelfLease, if_pos hdue, enterIsolated_withAge]
  · rw [if_neg]
    simp only [Bool.and_eq_true, selfLeaseDue_iff, decide_eq_true_eq, Bool.not_eq_true']
    rintro ⟨⟨⟨⟨-, hm, hage⟩, hsend⟩, hsent⟩, ht⟩
    rcases h with h | h | h | h | h
    · exact h hm
    · omega
    · rw [hsend] at h; cases h
    · rw [hsent] at h; cases h
    · exact h ht

/-! ### The lease clock's own timers -/

theorem ranFor_some {n m : Nat} : ranFor (some n) m = true ↔ m ≤ n := by simp [ranFor]

theorem renewDue_iff {s : State} {n : Nat} (h : s.renewTimer = .running n) :
    s.renewDue = true ↔ s.resetHeld = false ∧ s.lease / 4 ≤ n := by
  simp only [State.renewDue, h, Bool.and_eq_true, Bool.not_eq_true', decide_eq_true_eq]
  exact Iff.rfl

theorem holdsOrWants_iff {s : State} : s.holdsOrWants = true ↔ 0 < s.holding ∨ 0 < s.advertised := by
  simp [State.holdsOrWants]

/-- Queuing, as the statements write it: a RENEW. -/
theorem queueIntent_renew (s : State) :
    queueIntent .renew s = { s with outbox := { s.outbox with renew := queuedInto s.outbox.renew } } := by
  simp [queueIntent, Outbox.put, Outbox.get, mergeQueued_eq]

theorem queueIntent_census (s : State) :
    queueIntent .census s = { s with
      censusRetry := none, outbox := { s.outbox with census := queuedInto s.outbox.census } } := by
  simp [queueIntent, Outbox.put, Outbox.get, mergeQueued_eq]

/-- Settles O46: each timer at its count and before it, and the RENEW behind an outcome. -/
theorem renewSuppressionAndRetryTimersExpire : Obligations.RenewSuppressionAndRetryTimersExpire := by
  intro n s hr
  have hsupp : s.suppressionDue = ranFor s.suppression (s.lease / 4) := by
    simp [State.suppressionDue, hr, State.renewInterval, State.lease, Record.renew]
  have hretry : s.censusRetryDue = ranFor s.censusRetry s.lease := by simp [State.censusRetryDue, hr]
  have hbehind : ∀ reached raw, exec (.ownFrameOutcome ⟨reached, raw, .renewTimer⟩) s =
      .next (withRenewBehind (ownFrameOutcome reached raw) s) := fun _ _ => rfl
  refine ⟨fun ht hn hm hw => ?_, fun reached raw t ht hrun hn hsend hsent => ?_, fun reached raw h => ?_,
    fun ht hn h => ?_, fun ht hn => ?_, fun hs hn => ?_, fun hs hn => ?_, fun hc hn hm => ?_, fun hc hn hm hm' => ?_,
    fun hc hn => ?_⟩
  · refine congrArg Host.Outcome.next ?_
    rw [if_pos ((renewDue_iff ht).2 ⟨hr, hn⟩), renewExpires]
    dsimp only
    rw [if_pos (by rw [holdsOrWants_iff.2 hw]; simp [hm]), queueIntent_renew]
  · obtain rfl : ownFrameOutcome reached raw { s with renewTimer := .due } = t := Host.Outcome.next.inj ht
    have hdue := (renewDue_iff hrun).2 ⟨hr, hn⟩
    have hcond : (s.renewDue && s.sending &&
        !(ownFrameOutcome reached raw { s with renewTimer := .due }).sending) = true := by simp [hdue, hsend, hsent]
    rw [hbehind, withRenewBehind]
    dsimp only
    rw [if_pos hcond]
    refine ⟨fun hm hw ht => ?_, fun h => ?_⟩
    · rw [if_pos (by simpa [hm, holdsOrWants_iff.2 hw] using ht), queueIntent_renew]
    · rw [if_neg]
      simp only [Bool.and_eq_true, decide_eq_true_eq, holdsOrWants_iff]
      rintro ⟨⟨hm, hw⟩, ht⟩
      rcases h with h | ⟨hh, ha⟩ | h
      · exact h hm
      · omega
      · exact h ht
  · rw [hbehind]
    refine congrArg Host.Outcome.next (if_neg ?_)
    simp only [Bool.and_eq_true]
    rintro ⟨⟨hdue, hsend⟩, -⟩
    rcases h with h | ⟨hrun, hn⟩
    · rw [hsend] at h; cases h
    · have := ((renewDue_iff hrun).1 hdue).2
      omega
  · refine congrArg Host.Outcome.next ?_
    rw [if_pos ((renewDue_iff ht).2 ⟨hr, hn⟩), renewExpires]
    refine if_neg ?_
    simp only [Bool.and_eq_true, decide_eq_true_eq, holdsOrWants_iff]
    rintro ⟨hm, hw⟩
    rcases h with h | ⟨hh, ha⟩
    · exact h hm
    · omega
  · refine congrArg Host.Outcome.next (if_neg ?_)
    rw [renewDue_iff ht]
    omega
  · exact congrArg Host.Outcome.next (if_pos (by rw [hsupp, hs]; exact ranFor_some.2 hn))
  · refine congrArg Host.Outcome.next (if_neg ?_)
    rw [hsupp, hs, ranFor_some]
    omega
  · refine congrArg Host.Outcome.next ?_
    rw [if_pos (by rw [hretry, hc]; exact ranFor_some.2 hn), censusRetryExpires]
    dsimp only
    rw [if_pos hm, queueIntent_census]
  · refine congrArg Host.Outcome.next ?_
    rw [if_pos (by rw [hretry, hc]; exact ranFor_some.2 hn), censusRetryExpires]
    exact if_neg (by simp [hm, hm'])
  · refine congrArg Host.Outcome.next (if_neg ?_)
    rw [hretry, hc, ranFor_some]
    omega

/-- Settles O47: at 2P in MUTE the entry to START, before it nothing. -/
theorem muteWaitEndsInStart : Obligations.MuteWaitEndsInStart := by
  intro n s hr hm hw hh
  have hdue : s.muteWaitDue = true ↔ 2 * s.lease ≤ n := by simp [State.muteWaitDue, hr, hm, hw, ranFor]
  refine ⟨fun hn => ⟨_, rfl, ?_, ?_⟩, fun hn => ?_⟩
  · rw [endMuteWait, if_pos (hdue.2 hn)]
    exact enterStart_target s
  · rw [endMuteWait, if_pos (hdue.2 hn)]
    exact enterStart_eq hh
  · refine congrArg Host.Outcome.next (if_neg ?_)
    rw [hdue]
    omega

end Sys2Proof.Machine
end

section
/-! Frames heard (03 sections 3.2 and 3.3): the judgement, the slots, and what the end of a followed frame does at a
receiver and at an onlooker. One equation says what HEARD_FRAME does at the frame's end. -/

namespace Sys2Proof.Machine

/-! ### The positions at the judgement point -/

/-- From the judgement point on every position is known as it is read in the end (R43, R70). -/
theorem readsSoFar_of_judged {now : Nat} (h : 950 ≤ now) (lows : List Low) :
    readsSoFar now lows = readPositions lows := by
  have hknown : (List.range Config.markCount).map (knownRead now lows) =
      (List.range Config.markCount).map fun k => some (readPosition lows k) := by
    refine List.map_congr_left fun k hk => ?_
    have hk' : k < 31 := List.mem_range.1 hk
    have hw : windowOpening (k + 1) ≤ now := by
      simp only [windowOpening, Config.lead, Config.markPitch]; omega
    rw [knownRead, if_pos hw]
  rw [readsSoFar, hknown, List.takeWhile_eq_self_iff.2 (by simp), List.filterMap_map]
  simp [readPositions]

theorem assembled_fields {now : Nat} (h : 950 ≤ now) (r : FrameRecord) (lows : List Low) :
    (r.assembled now lows).fields = decodeFrame (readPositions lows) := by
  rw [← readsSoFar_of_judged h]
  rfl

/-! ### What a report of a followed frame does -/

section
variable {reached now : Nat} {raw lows : List Low} {r : FrameRecord} {s : State}

/-- A report with no break inside the frame (R49, R69). -/
theorem exec_heardFrame (hon : s.lineOn = true) (hr : s.followed = some r) (hrole : r.role ≠ .sender)
    (hreach : reaches r reached now raw lows) :
    exec (.heardFrame ⟨reached, raw⟩) s =
      .next (if 1010 ≤ now then endFollowed (followTo r now lows s) else followTo r now lows s) := by
  obtain ⟨rfl, rfl, hbreak⟩ := hreach
  refine congrArg Host.Outcome.next ?_
  simp only [heardFrame, heardTo, hr, hon, hrole, hearTo, hbreak, decide_false, Bool.not_true, Bool.or_self,
    Bool.false_eq_true, if_false]
  rfl

/-- An onlooker comes along with its record, and reads and judges nothing (R69). -/
theorem followTo_onlooker (hr : s.followed = some r) (hrole : r.role = .onlooker) (now : Nat) (lows : List Low) :
    followTo r now lows s = { s with
      opening := none, frame := some { r.sampled now lows with elapsed := now }
      highTime := quietInFrame s r now lows, lineLow := lowOnLine s r now lows } := by
  rw [← frameReaches_eq hr]
  simp [followTo, State.judges, hrole]

theorem followTo_judged (hr : s.followed = some r) {v : Verdict} (hv : r.verdict = some v) (now : Nat)
    (lows : List Low) :
    followTo r now lows s = { s with
      opening := none, frame := some { r.sampled now lows with elapsed := now }
      highTime := quietInFrame s r now lows, lineLow := lowOnLine s r now lows } := by
  rw [← frameReaches_eq hr, followTo_of_judged hv]

/-- The record of a receiver that judges at `now` (R43, R72). -/
def FrameRecord.judgedAt (r : FrameRecord) (v : Verdict) (now : Nat) (lows : List Low) : FrameRecord :=
  { FrameRecord.sampled { r.assembled now lows with verdict := some v } now lows with elapsed := now }

/-- A receiver at its judgement point judges once, by the station as it stands (R43, R48, R70). -/
theorem followTo_judges (hr : s.followed = some r) (hl : s.mode.listening = true) (hrole : r.role = .receiver)
    (hv : r.verdict = none) (h : 950 ≤ now) :
    followTo r now lows s = { s with
      opening := none
      frame := some (r.judgedAt (s.judgeFrame (decodeFrame (readPositions lows))) now lows)
      highTime := quietInFrame s r now lows, lineLow := lowOnLine s r now lows
      voidRun := voidRunAfter s.voidRun (s.judgeFrame (decodeFrame (readPositions lows))) } := by
  have hj : s.judges r now = true := by
    simp only [State.judges, hrole, hl, hv, decide_true, Option.isNone_none, Bool.true_and, decide_eq_true_eq]
    exact h
  rw [followTo, if_pos hj]
  simp only [hrole, hv, decide_true, Option.isNone_none, Bool.and_self, if_true, assembled_fields h]
  exact frameReaches_eq (s := { s with
    voidRun := voidRunAfter s.voidRun (s.judgeFrame (decodeFrame (readPositions lows))) }) hr _ _ _

end

/-! ### The end of a followed frame -/

/-- The effect of a verdict at a receiver, behind the known frame end (R46 to R49, R155). -/
def settleHeard (v : Verdict) (fields : Option FrameFields) (void : Bool) (s : State) : State :=
  match v with
  | .voidClash => enterFault .clash s
  | .voidReception => if 8 ≤ s.voidRun then enterMute s else s
  | .voidBudget => s
  | .ack =>
    match fields with
    | some f => if void then s else answerCensus f (applyFrame f s)
    | none => s

theorem applyVerdict_eq {q : FrameRecord} {v : Verdict} {void : Bool} (hv : q.verdict = some v)
    (hvoid : v = .ack → q.voidSample = some void) (s : State) :
    applyVerdict q s = settleHeard v q.fields void s := by
  cases v with
  | ack =>
    simp only [applyVerdict, settleHeard, hv, hvoid rfl]
    cases q.fields with
    | none => rfl
    | some f => cases void <;> simp
  | voidClash => simp only [applyVerdict, settleHeard, hv]
  | voidReception =>
    simp only [applyVerdict, settleHeard, hv]
    rfl
  | voidBudget => simp only [applyVerdict, settleHeard, hv]

/-- A receiver's record at the frame's end shows the VOID slot of others, where its own verdict is ACK (R67, R49). -/
theorem sampled_voidSample {r : FrameRecord} (hv : r.verdict = some .ack) (hrole : r.role = .receiver) {now : Nat}
    (hend : 1010 ≤ now) (lows : List Low) :
    (r.sampled now lows).voidSample = some (r.voidSample.getD (voidSeen lows)) := by
  have hvoid : Config.voidStart + Config.slotSample ≤ now := Nat.le_trans (by decide) hend
  cases hs : r.voidSample <;> simp [FrameRecord.sampled, FrameRecord.drivesVoid, hrole, hv, hs, hvoid]

section
variable {reached now : Nat} {raw lows : List Low} {r : FrameRecord} {s : State}

/-- The station at the end of a followed frame, its verdict's effect aside. -/
def heardEnd (s : State) (r : FrameRecord) (now : Nat) (lows : List Low) (run : Nat) : State :=
  joinCensus s { atFrameEnd s r now lows with voidRun := run }

theorem heardEnd_eq (s : State) (r : FrameRecord) (now : Nat) (lows : List Low) (run : Nat) :
    heardEnd s r now lows run = { atFrameEnd s r now lows with
      voidRun := run, outbox := (heardEnd s r now lows run).outbox
      censusRetry := (heardEnd s r now lows run).censusRetry } := joinCensus_eq _ _

theorem heardEnd_of_joined (h : s.mode ≠ .start ∨ s.joinCondition = true) (r : FrameRecord) (now : Nat)
    (lows : List Low) (run : Nat) :
    heardEnd s r now lows run = { atFrameEnd s r now lows with voidRun := run } := joinCensus_of_joined h _

theorem endFollowed_follower (hl : s.mode.listening = true) {q : FrameRecord} (hrole : q.role = .receiver)
    (run : Nat) :
    endFollowed { s with
      opening := none, frame := some q, highTime := quietInFrame s r now lows, lineLow := lowOnLine s r now lows
      voidRun := run } = applyVerdict q (heardEnd s r now lows run) := by
  simp only [endFollowed, hrole, hl, decide_true, Bool.and_self, if_true, knownFrameEnd_eq]
  rfl

/-- HEARD_FRAME at the end of a receiver's frame (R43, R46 to R49): the verdict that stands or is reached now, with the
marks it was reached by, has its effect behind the known frame end. -/
theorem exec_heard_end (hon : s.resetHeld = false) (hl : s.mode.listening = true) (hr : s.followed = some r)
    (hrole : r.role = .receiver) (hreach : reaches r reached now raw lows) (hend : 1010 ≤ now) {v : Verdict}
    {fields : Option FrameFields}
    (hv : (r.verdict = none ∧ fields = decodeFrame (readPositions lows) ∧ v = s.judgeFrame fields) ∨
      (r.verdict = some v ∧ fields = r.fields)) :
    exec (.heardFrame ⟨reached, raw⟩) s = .next (settleHeard v fields (r.voidSample.getD (voidSeen lows))
      (heardEnd s r now lows (if r.verdict = none then voidRunAfter s.voidRun v else s.voidRun))) := by
  have hline : s.lineOn = true := lineOn_iff.2 ⟨hon, Mode.running_of_listening hl⟩
  rw [exec_heardFrame hline hr (by simp [hrole]) hreach, if_pos hend]
  refine congrArg Host.Outcome.next ?_
  rcases hv with ⟨hv, rfl, rfl⟩ | ⟨hv, rfl⟩
  · have h950 : 950 ≤ now := by omega
    have hjudge := followTo_judges hr hl hrole hv h950 (lows := lows)
    generalize s.judgeFrame (decodeFrame (readPositions lows)) = v at hjudge ⊢
    have hq : (r.judgedAt v now lows).fields = decodeFrame (readPositions lows) := assembled_fields h950 r lows
    rw [hjudge, endFollowed_follower hl (q := r.judgedAt v now lows) hrole, if_pos hv, ← hq]
    refine applyVerdict_eq rfl ?_ _
    rintro rfl
    exact sampled_voidSample (r := { r.assembled now lows with verdict := some .ack }) rfl hrole hend lows
  · rw [followTo_judged hr hv, if_neg (by simp [hv])]
    have hfollow := endFollowed_follower (s := s) (r := r) (now := now) (lows := lows) hl
      (q := { r.sampled now lows with elapsed := now }) hrole s.voidRun
    refine hfollow.trans (applyVerdict_eq (q := { r.sampled now lows with elapsed := now }) hv ?_ _)
    rintro rfl
    exact sampled_voidSample hv hrole hend lows

/-- At an onlooker every frame's end is a known frame end and nothing more (R69). -/
theorem exec_heard_onlooker (hon : s.lineOn = true) (hr : s.followed = some r) (hrole : r.role = .onlooker)
    (hreach : reaches r reached now raw lows) (hend : 1010 ≤ now) :
    exec (.heardFrame ⟨reached, raw⟩) s = .next (joinCensus s (atFrameEnd s r now lows)) := by
  rw [exec_heardFrame hon hr (by simp [hrole]) hreach, if_pos hend, followTo_onlooker hr hrole]
  refine congrArg Host.Outcome.next ?_
  simp only [endFollowed, sampled_role, hrole, reduceCtorEq, decide_false, Bool.false_and, Bool.false_eq_true,
    if_false, knownFrameEnd_eq]
  rfl

end

end Sys2Proof.Machine
end

section
/-! The statements about heard frames (03 sections 3.2 and 3.3, 09 sections 9.2 and 9.5), each from the one equation for
the frame's end, `exec_heard_end`, and the one for the judgement point, `followTo_judges`. -/

namespace Sys2Proof.Machine

/-! ### The verdict -/

section
variable {s : State}

theorem judgeFrame_none : s.judgeFrame none = .voidReception := rfl

theorem judgeFrame_own {f : FrameFields} (h : f.sender = s.address) : s.judgeFrame (some f) = .voidClash := if_pos h

/-- A CLAIM that does not fit is void for the budget; the first line of R43 that applies. -/
theorem judgeFrame_unfit {f : FrameFields} (h : f.sender ≠ s.address) (hm : s.mode = .member) (hk : f.kind = .claim)
    (hb : s.budget < s.othersHolding f.sender + f.holding) : s.judgeFrame (some f) = .voidBudget := by
  rw [State.judgeFrame, if_neg h, if_pos ⟨hm, hk, hb⟩]

theorem judgeFrame_fit {f : FrameFields} (h : f.sender ≠ s.address)
    (hb : s.mode = .member → f.kind = .claim → s.othersHolding f.sender + f.holding ≤ s.budget) :
    s.judgeFrame (some f) = .ack := by
  rw [State.judgeFrame, if_neg h, if_neg]
  rintro ⟨hm, hk, hlt⟩
  have := hb hm hk
  omega

end

/-! ### The sums over the roster -/

/-- The sums of R16 and R45 at a station with an own entry whose peers' entries are a table without it. -/
theorem rosterAddsUp_of {s : State} (h : s.RosterInv) (hr : s.resetHeld = false) (hm : s.mode ≠ .unconfigured) :
    rosterAddsUp s := by
  have hown : s.hasOwnEntry = true := by simp [State.hasOwnEntry, hr, hm]
  have hroster : s.roster = putEntry s.ownEntry s.replicas := if_pos hown
  have hsum : s.rosterSum = s.holding + (s.replicas.map Entry.holding).sum := by
    have habsent : dropEntry s.ownEntry.address s.replicas = s.replicas := dropEntry_absent h.2
    rw [State.rosterSum, hroster, sumHoldings_putEntry h.1, habsent]
    exact Nat.add_comm _ _
  refine ⟨hroster, hsum, fun a => ?_⟩
  have hrising : rising s.roster = true := by rw [hroster]; exact rising_putEntry h.1
  exact sumHoldings_dropEntry_add hrising a

/-! ### What the frame's end leaves of the station -/

section
variable (s : State) (r : FrameRecord) (now : Nat) (lows : List Low) (run : Nat)

/-- The frame's end leaves the load, the roster and the outbox but for a joining CENSUS. -/
theorem heardEnd_station :
    (heardEnd s r now lows run).mode = s.mode ∧ (heardEnd s r now lows run).holding = s.holding ∧
    (heardEnd s r now lows run).voidRun = run := by
  rw [heardEnd_eq]
  exact ⟨rfl, rfl, rfl⟩

variable {s}

theorem heardEnd_outputInv (h : s.OutputInv) : (heardEnd s r now lows run).OutputInv := by
  rw [heardEnd_eq]; exact h

theorem heardEnd_rosterInv (h : s.RosterInv) : (heardEnd s r now lows run).RosterInv := by
  rw [heardEnd_eq]; exact h

/-- What an entry to FAULT leaves does not depend on a CENSUS that joined before it: FAULT keeps a YIELD alone (R99). -/
theorem faultEntered_joinCensus {cause : FaultCause} {s u t : State} (h : faultEntered cause (joinCensus s u) t) :
    faultEntered cause u t := by
  have hyield : (joinCensus s u).outbox.yield = u.outbox.yield := by rw [joinCensus_outbox]
  have hback : (joinCensus s u).outbox.backoff = u.outbox.backoff := by rw [joinCensus_outbox]
  have hflight : (joinCensus s u).outbox.inFlight = u.outbox.inFlight := by rw [joinCensus_outbox]
  have hholding := (joinCensus_station s u).1
  obtain ⟨hh, hramp, hlevel, ht, ha, hbox, hfly, hfault, hout, hframe⟩ := h
  rw [hyield, hback, hholding] at hbox
  rw [hflight] at hfly
  rw [hholding] at hout
  refine ⟨hh, hramp, hlevel, ht, ha, hbox, hfly, hfault, hout, allocatorOnly.trans ?_ hframe⟩
  rw [joinCensus_eq]
  exact allocatorOnly.outbox (s := receivesNoMore { u with
    mode := .fault, faultCause := cause, windowCap := none, muteWait := none, joinCondition := false
    censusRetry := none }) _

end

theorem mode_ne_fault_of_listening {m : Mode} (h : m.listening = true) : m ≠ .fault := by
  rintro rfl; cases h

theorem mode_ne_unconfigured_of_listening {m : Mode} (h : m.listening = true) : m ≠ .unconfigured := by
  rintro rfl; cases h

/-- Settles O36: the verdict of a frame with the own address is a clash, and its effect FAULT. -/
theorem ownAddressHeardIsAClash : Obligations.OwnAddressHeardIsAClash := by
  intro reached now raw lows r s hon hl hr hrole hreach hend hv ho hroster
  have hclash : ∃ fields, (r.verdict = none ∧ fields = decodeFrame (readPositions lows) ∧
      Verdict.voidClash = s.judgeFrame fields) ∨ (r.verdict = some .voidClash ∧ fields = r.fields) := by
    rcases hv with ⟨hv, f, hf, hs⟩ | hv
    · exact ⟨_, .inl ⟨hv, rfl, by rw [hf, judgeFrame_own hs]⟩⟩
    · exact ⟨_, .inr ⟨hv, rfl⟩⟩
  obtain ⟨fields, hfields⟩ := hclash
  refine ⟨_, exec_heard_end hon hl hr hrole hreach hend hfields, ?_⟩
  have hmode := (heardEnd_station s r now lows (if r.verdict = none then 0 else s.voidRun)).1
  exact faultEntered_joinCensus (enterFault_entered .clash (hmode ▸ mode_ne_fault_of_listening hl)
    (heardEnd_outputInv r now lows _ ho) (heardEnd_rosterInv r now lows _ hroster))

/-- Settles O35: below 8 the run alone is raised, at 8 the end of the frame enters MUTE. -/
theorem eighthReceptionErrorMutes : Obligations.EighthReceptionErrorMutes := by
  intro reached now raw lows r s hon hl hr hrole hreach hend hv
  have hvoid : ∃ fields, (r.verdict = none ∧ fields = decodeFrame (readPositions lows) ∧
      Verdict.voidReception = s.judgeFrame fields) ∨ (r.verdict = some .voidReception ∧ fields = r.fields) := by
    rcases hv with ⟨hv, hf⟩ | hv
    · exact ⟨_, .inl ⟨hv, rfl, by rw [hf, judgeFrame_none]⟩⟩
    · exact ⟨_, .inr ⟨hv, rfl⟩⟩
  obtain ⟨fields, hfields⟩ := hvoid
  have hexec := exec_heard_end hon hl hr hrole hreach hend hfields
  have hrun : (if r.verdict = none then voidRunAfter s.voidRun .voidReception else s.voidRun) =
      if r.verdict = none then min 8 (s.voidRun + 1) else s.voidRun := rfl
  rw [hrun] at hexec
  dsimp only
  generalize (if r.verdict = none then min 8 (s.voidRun + 1) else s.voidRun) = run at hexec ⊢
  rw [settleHeard, (heardEnd_station s r now lows run).2.2] at hexec
  refine ⟨fun hlt => ?_, fun h8 ho hroster => ?_⟩
  · rw [if_neg (by omega)] at hexec
    refine ⟨_, hexec, heardEnd_eq .., fun hj => ?_⟩
    rw [heardEnd_of_joined hj]
    exact ⟨rfl, rfl⟩
  · rw [if_pos (by omega)] at hexec
    obtain ⟨hh, hlevel, hramp, ht, ha, hbox, hmuted, hout, hframe⟩ := enterMute_entered
      (heardEnd_outputInv r now lows run ho) (heardEnd_rosterInv r now lows run hroster)
    rw [(heardEnd_station s r now lows run).2.1] at hout
    refine ⟨_, hexec, hh, hlevel, hramp, ht, ha, hbox, hmuted, hout, allocatorOnly.trans ?_ hframe⟩
    rw [heardEnd_eq, h8]
    exact allocatorOnly.outbox (s := receivesNoMore { atFrameEnd s r now lows with
      mode := .mute, muteWait := some 0, voidRun := 8, windowCap := none, joinCondition := false
      censusRetry := none }) _

/-! ### Judging and setting aside -/

/-- The slot of a receiver's verdict: ACK for 2T from 95T, VOID for 2T from 98T (R43, R67, R83). -/
theorem drives_receiver {q : FrameRecord} {v : Verdict} (hrole : q.role = .receiver) (hv : q.verdict = some v) :
    q.drives = true ↔ (v = .ack ∧ 950 ≤ q.elapsed ∧ q.elapsed < 970) ∨
      (v ≠ .ack ∧ 980 ≤ q.elapsed ∧ q.elapsed < 1000) := by
  have hack : q.drivesAck = decide (v = .ack) := by
    cases v <;> simp [FrameRecord.drivesAck, hrole, hv]
  have hvoid : q.drivesVoid = decide (v ≠ .ack) := by
    cases v <;> simp [FrameRecord.drivesVoid, hrole, hv]
  simp only [FrameRecord.drives, hrole, hack, hvoid, Bool.false_or, Bool.or_eq_true, Bool.and_eq_true,
    decide_eq_true_eq, and_assoc]
  exact Iff.rfl

theorem shareDriven_of_frame {t : State} {q : FrameRecord} (hon : t.lineOn = true) (ho : t.opening = none)
    (hf : t.frame = some q) : t.shareDriven = q.drives := by
  simp [State.shareDriven, hon, ho, hf]

/-- A reception error raises the void run, any other verdict ends it (R48). -/
theorem voidRunAfter_judgeFrame (s : State) (run : Nat) (fields : Option FrameFields) :
    voidRunAfter run (s.judgeFrame fields) = if fields = none then min 8 (run + 1) else 0 := by
  cases fields with
  | none => rfl
  | some f =>
    rw [if_neg (by simp), State.judgeFrame]
    split
    · rfl
    · split <;> rfl

/-- The frame is set aside: its verdict is none that mutes or faults, and no write follows (R49). -/
theorem settleHeard_aside {v : Verdict} {void : Bool} (h : v = .voidBudget ∨ (v = .ack ∧ void = true))
    (fields : Option FrameFields) (s : State) : settleHeard v fields void s = s := by
  rcases h with rfl | ⟨rfl, rfl⟩
  · rfl
  · cases fields <;> rfl

/-- Settles O34: at the judgement point the first line of R43 that applies; at the end of a frame set aside, and at an
onlooker, a known frame end and no more. -/
theorem voidedFrameChangesNoRoster : Obligations.VoidedFrameChangesNoRoster := by
  intro reached now raw lows r s hon hr hreach
  obtain ⟨hreset, hrun⟩ := lineOn_iff.1 hon
  dsimp only
  refine ⟨fun hroster => rosterAddsUp_of hroster hreset (Mode.ne_unconfigured_of_running hrun),
    fun hl hrole hv h950 hlt => ?_, fun hrole hv hlt => ?_, fun hl hrole hend hcase => ?_, fun hrole hend => ?_⟩
  · have hexec := exec_heardFrame hon hr (by simp [hrole]) hreach
    rw [if_neg (by omega), followTo_judges hr hl hrole hv h950] at hexec
    have hrun := voidRunAfter_judgeFrame s s.voidRun (decodeFrame (readPositions lows))
    have hdrives := fun v => drives_receiver (q := r.judgedAt v now lows) hrole rfl
    refine ⟨_, r.judgedAt (s.judgeFrame (decodeFrame (readPositions lows))) now lows,
      s.judgeFrame (decodeFrame (readPositions lows)), hexec, by rw [hrun], hrole, rfl,
      assembled_fields h950 r lows, rfl, ?none, ?own, ?unfit, ?fit, ?share⟩
    case none => intro h; rw [h, judgeFrame_none]
    case own => rintro ⟨f, hf, hs⟩; rw [hf, judgeFrame_own hs]
    case unfit =>
      rintro hown ⟨f, hf, hm, hk, hb⟩
      rw [hf, judgeFrame_unfit (fun hs => hown ⟨f, hf, hs⟩) hm hk hb]
    case fit =>
      intro hsome hown hunfit
      obtain ⟨f, hf⟩ := Option.isSome_iff_exists.1 hsome
      rw [hf, judgeFrame_fit (fun hs => hown ⟨f, hf, hs⟩) fun hm hk => ?_]
      exact Nat.not_lt.1 fun hb => hunfit ⟨f, hf, hm, hk, hb⟩
    case share =>
      generalize s.judgeFrame (decodeFrame (readPositions lows)) = v at hdrives ⊢
      have hshare := hdrives v
      rw [← shareDriven_of_frame (t := { s with
        opening := none, frame := some (r.judgedAt v now lows), highTime := quietInFrame s r now lows
        lineLow := lowOnLine s r now lows, voidRun := voidRunAfter s.voidRun v }) hon rfl rfl] at hshare
      rw [← Bool.not_eq_true, hshare]
      have helapsed : (r.judgedAt v now lows).elapsed = now := rfl
      rw [helapsed]
      refine ⟨fun h => ?_, fun h h' => ?_, fun h h' => ?_, fun h => ?_⟩
      · exact ⟨fun hd => by rcases hd with ⟨hv, -⟩ | ⟨-, hlo, -⟩; exact hv; omega, fun hv => .inl ⟨hv, h950, h⟩⟩
      · exact ⟨fun hd => by rcases hd with ⟨-, -, hhi⟩ | ⟨hv, -⟩; omega; exact hv, fun hv => .inr ⟨hv, h, h'⟩⟩
      · omega
      · omega
  · obtain ⟨v, hv⟩ := Option.isSome_iff_exists.1 hv
    have hexec := exec_heardFrame hon hr (by simp [hrole]) hreach
    rw [if_neg (by omega), followTo_judged hr hv] at hexec
    exact ⟨_, _, hexec, rfl, hrole, rfl, rfl, rfl⟩
  · have haside : ∃ v fields, ((r.verdict = none ∧ fields = decodeFrame (readPositions lows) ∧
          v = s.judgeFrame fields) ∨ (r.verdict = some v ∧ fields = r.fields)) ∧
        (v = .voidBudget ∨ (v = .ack ∧ r.voidSample.getD (voidSeen lows) = true)) := by
      rcases hcase with ⟨hv, hown, hcase⟩ | hv | ⟨hv, hvoid⟩
      · refine ⟨_, _, .inl ⟨hv, rfl, rfl⟩, ?_⟩
        by_cases hunfit : ∃ f, decodeFrame (readPositions lows) = some f ∧ s.mode = .member ∧ f.kind = .claim ∧
            s.budget < s.othersHolding f.sender + f.holding
        · obtain ⟨f, hf, hm, hk, hb⟩ := hunfit
          exact .inl (by rw [hf, judgeFrame_unfit (fun hs => hown ⟨f, hf, hs⟩) hm hk hb])
        · obtain ⟨hsome, hvoid⟩ := hcase.resolve_left hunfit
          obtain ⟨f, hf⟩ := Option.isSome_iff_exists.1 hsome
          refine .inr ⟨?_, hvoid⟩
          rw [hf, judgeFrame_fit (fun hs => hown ⟨f, hf, hs⟩) fun hm hk => ?_]
          exact Nat.not_lt.1 fun hb => hunfit ⟨f, hf, hm, hk, hb⟩
      · exact ⟨_, _, .inr ⟨hv, rfl⟩, .inl rfl⟩
      · exact ⟨_, _, .inr ⟨hv, rfl⟩, .inr ⟨rfl, hvoid⟩⟩
    obtain ⟨v, fields, hv, hno⟩ := haside
    have hexec := exec_heard_end hreset hl hr hrole hreach hend hv
    have hzero : voidRunAfter s.voidRun v = 0 := by rcases hno with rfl | ⟨rfl, -⟩ <;> rfl
    rw [settleHeard_aside hno, hzero] at hexec
    refine ⟨_, hexec, heardEnd_eq .., fun hj => ?_⟩
    rw [heardEnd_of_joined hj]
    exact ⟨rfl, rfl⟩
  · have hexec := exec_heard_onlooker hon hr hrole hreach hend
    refine ⟨_, hexec, joinCensus_eq _ _, fun hj => ?_, fun hm hj => ?_⟩
    · rw [joinCensus_of_joined hj]
      exact ⟨rfl, rfl⟩
    · rw [joinCensus_of_joins hm hj, queueIntent_census]
      exact ⟨rfl, rfl⟩

end Sys2Proof.Machine
end

section
/-! A heard frame that stands (01 sections 1.5 and 1.7, 03 section 3.3): the one write to the roster and what the roster
hands on. -/

namespace Sys2Proof.Machine

/-! ### What the roster hands on -/

section
variable {s : State} (was : Bool)

theorem rosterPass_target : (rosterPass was s).target = (rosterPass was s).fairTarget := by
  rw [rosterPass, recompute_fairTarget, recompute_target]

theorem recompute_suppression (h : s.suppression = none) : (recompute s).suppression = none := by
  rcases recompute_cases s with ⟨-, e⟩ | ⟨-, -, e⟩ | ⟨-, -, e⟩ <;> rw [e]
  · rfl
  · exact h
  · exact h

theorem rosterPass_suppression : (rosterPass was s).suppression = none := recompute_suppression (by simp)

theorem rosterPass_latched {k : EventKind} (h : s.latched k = true) : (rosterPass was s).latched k = true :=
  recompute_latched (beginOvercommit_latched was (by rwa [latched_congr (liftSuppression_latch _)]))

theorem rosterPass_holding_le : (rosterPass was s).holding ≤ s.holding := by simp [rosterPass]

/-- With the sum above B no recompute queues a CLAIM (R32). -/
theorem recompute_claim_of_over (h : s.budget < s.rosterSum) : (recompute s).outbox.claim = s.outbox.claim := by
  rcases recompute_cases s with ⟨h', -⟩ | ⟨-, hc, -⟩ | ⟨-, -, e⟩
  · rw [recompute_yields h']
  · have := ((claimWanted_refreshTarget s).1 hc).2.2.2.1
    omega
  · rw [e]; rfl

/-- The beginning of overcommit (R17, R96). -/
theorem beginOvercommit_over (h : s.overcommitted = true) :
    (beginOvercommit false s).latched .overcommit = true ∧ (beginOvercommit false s).outbox.claim = none ∧
    ∀ g ∈ (beginOvercommit false s).outbox.inFlight, g.kind = .claim → g.cancelled = true := by
  rw [beginOvercommit, if_pos (by simp [h])]
  refine ⟨latchEvent_latched_self, ?_, ?_⟩
  · rw [latchEvent_outbox, withdrawClaim]
    dsimp only
    split <;> rfl
  · have hflight : (withdrawClaim { s with
        outbox := s.outbox.cancel fun k => decide (k = .claim) }).outbox.inFlight =
        (s.outbox.cancel fun k => decide (k = .claim)).inFlight := by
      rw [withdrawClaim]
      dsimp only
      split <;> rfl
    intro g hg hk
    rw [latchEvent_outbox, hflight] at hg
    obtain ⟨i, -, rfl⟩ := Option.map_eq_some_iff.1 hg
    split at hk <;> simp_all

/-- A change that raises the roster sum above B begins overcommit (R17, R18). -/
theorem rosterPass_over (h : s.budget < s.rosterSum) :
    (rosterPass false s).latched .overcommit = true ∧ (rosterPass false s).outbox.claim = none ∧
    ∀ g ∈ (rosterPass false s).outbox.inFlight, g.kind = .claim → g.cancelled = true := by
  have hover : (liftSuppression s).overcommitted = true := by
    show decide (s.budget < s.rosterSum) = true
    simpa using h
  obtain ⟨hlatch, hclaim, hflight⟩ := beginOvercommit_over hover
  have hsum : (beginOvercommit false (liftSuppression s)).budget <
      (beginOvercommit false (liftSuppression s)).rosterSum := by
    rw [beginOvercommit_writes]
    exact h
  refine ⟨recompute_latched hlatch, ?_, ?_⟩
  · rw [rosterPass, recompute_claim_of_over hsum, hclaim]
  · rw [rosterPass, (recompute_outbox _).2.2.1]
    exact hflight

end

/-! ### The write -/

/-- The entry that a heard frame writes (R9). -/
def FrameFields.entry (f : FrameFields) : Entry := ⟨f.sender, .live, f.holding, f.demand, 0⟩

/-- The sender's entry is there already, LIVE with the frame's values. -/
def sameEntry (f : FrameFields) (l : List Entry) : Prop :=
  ∃ age, findEntry f.sender l = some ⟨f.sender, .live, f.holding, f.demand, age⟩

/-- A frame applied: the write alone where its values stood, and otherwise what the roster hands on, behind ROSTER for a
created entry (R9 to R12, R18). -/
theorem applyFrame_cases (f : FrameFields) (s : State) :
    (sameEntry f s.replicas ∧ applyFrame f s = { s with replicas := putEntry f.entry s.replicas }) ∨
    (¬ sameEntry f s.replicas ∧ ∃ latch, (findEntry f.sender s.replicas = none →
        State.latched { s with replicas := putEntry f.entry s.replicas, latch := latch } .roster = true) ∧
      applyFrame f s =
        rosterPass s.overcommitted { s with replicas := putEntry f.entry s.replicas, latch := latch }) := by
  unfold applyFrame
  dsimp only
  cases he : findEntry f.sender s.replicas with
  | none =>
    refine .inr ⟨by simp [sameEntry, he], s.latch ||| EventKind.roster.word, fun _ => ?_, rfl⟩
    exact latchEvent_latched_self (k := .roster) (s := { s with replicas := putEntry f.entry s.replicas })
  | some e =>
    have haddr := findEntry_address he
    by_cases hsame : e.status = .live ∧ e.holding = f.holding ∧ e.demand = f.demand
    · refine .inl ⟨⟨e.age, ?_⟩, if_pos hsame⟩
      obtain ⟨hst, hh, hd⟩ := hsame
      rw [he, ← haddr, ← hst, ← hh, ← hd]
    · refine .inr ⟨?_, s.latch, by simp, if_neg hsame⟩
      rintro ⟨age, h⟩
      rw [he] at h
      obtain rfl := Option.some.inj h
      exact hsame ⟨rfl, rfl, rfl⟩

/-- Values that stood leave every sum as it was. -/
theorem sumHoldings_putEntry_same {f : FrameFields} {l : List Entry} (hl : rising l = true) (h : sameEntry f l) :
    sumHoldings (putEntry f.entry l) = sumHoldings l := by
  obtain ⟨age, h⟩ := h
  rw [sumHoldings_putEntry hl]
  exact sumHoldings_dropEntry (e := ⟨f.sender, .live, f.holding, f.demand, age⟩) hl h

/-- A census answer queues a RENEW at a MEMBER that holds or wants current, and nothing else (R50). -/
theorem answerCensus_cases (f : FrameFields) (s : State) :
    answerCensus f s = queueIntent .renew s ∨
    (answerCensus f s = s ∧ ¬ (f.kind = .census ∧ s.mode = .member ∧ s.holdsOrWants = true)) := by
  unfold answerCensus
  split
  · exact .inl rfl
  next h => exact .inr ⟨rfl, by simpa [and_assoc] using h⟩

/-- What every heard frame that stands does, at a station `s` (R9 to R12, R17, R18, R50). -/
def frameApplied (f : FrameFields) (s t : State) : Prop :=
  let heard : State := { s with replicas := putEntry f.entry s.replicas }
  t.replicas = heard.replicas ∧
  (findEntry f.sender s.replicas = none → t.latched .roster = true) ∧
  (¬ sameEntry f s.replicas → t.target = t.fairTarget ∧ t.suppression = none) ∧
  (¬ sameEntry f s.replicas → s.overcommitted = false → s.budget < heard.rosterSum →
    t.latched .overcommit = true ∧ t.outbox.claim = none ∧
    ∀ g ∈ t.outbox.inFlight, g.kind = .claim → g.cancelled = true) ∧
  (sameEntry f s.replicas → t.target = s.target ∧ t.holding = s.holding ∧ t.latch = s.latch ∧
    t.suppression = s.suppression ∧ t.outbox.claim = s.outbox.claim) ∧
  t.holding ≤ s.holding ∧ allocatorOnly heard t

theorem applyFrame_applied (f : FrameFields) (s : State) : frameApplied f s (applyFrame f s) := by
  rcases applyFrame_cases f s with ⟨hsame, e⟩ | ⟨hne, latch, hroster, e⟩ <;> rw [e]
  · refine ⟨rfl, fun hnone => ?_, fun h => absurd hsame h, fun h => absurd hsame h, fun _ => ⟨rfl, rfl, rfl, rfl, rfl⟩,
      Nat.le_refl _, allocatorOnly.rfl⟩
    obtain ⟨age, h⟩ := hsame
    rw [hnone] at h; cases h
  · refine ⟨rosterPass_replicas _ _, fun h => rosterPass_latched _ (hroster h),
      fun _ => ⟨rosterPass_target _, rosterPass_suppression _⟩, fun _ hover hlt => ?_, fun h => absurd h hne,
      rosterPass_holding_le _, allocatorOnly.rosterPass _ (Eq.refl _)⟩
    rw [hover]
    exact rosterPass_over hlt

/-- The census answer behind it leaves all of that (R50). -/
theorem answerCensus_applied {f : FrameFields} {s t : State} (h : frameApplied f s t) :
    frameApplied f s (answerCensus f t) := by
  rcases answerCensus_cases f t with e | ⟨e, -⟩ <;> rw [e]
  · obtain ⟨hrep, hroster, htarget, hover, hsame, hle, hframe⟩ := h
    rw [queueIntent_renew]
    exact ⟨hrep, hroster, htarget, hover, hsame, hle, hframe.trans (allocatorOnly.outbox _)⟩
  · exact h

theorem answerCensus_renew {f : FrameFields} {t : State} (hk : f.kind = .census)
    (hm : (answerCensus f t).mode = .member) (hw : (answerCensus f t).holdsOrWants = true) :
    (answerCensus f t).outbox.renew.isSome = true := by
  rcases answerCensus_cases f t with e | ⟨e, hno⟩
  · rw [e, queueIntent_renew]; rfl
  · rw [e] at hm hw
    exact absurd ⟨hk, hm, hw⟩ hno

/-- Settles O33: the verdict is ACK, and the frame is applied at the known frame end. -/
theorem heardFrameWritesOnlyItsSender : Obligations.HeardFrameWritesOnlyItsSender := by
  intro reached now raw lows r f s hon hl hr hrole hreach hend hsender hv hvoid
  have hack : ∃ fields, fields = some f ∧ ((r.verdict = none ∧ fields = decodeFrame (readPositions lows) ∧
      Verdict.ack = s.judgeFrame fields) ∨ (r.verdict = some .ack ∧ fields = r.fields)) := by
    rcases hv with ⟨hv, hf, hfit⟩ | ⟨hv, hf⟩
    · exact ⟨_, rfl, .inl ⟨hv, hf.symm, (judgeFrame_fit hsender hfit).symm⟩⟩
    · exact ⟨_, rfl, .inr ⟨hv, hf.symm⟩⟩
  obtain ⟨fields, rfl, hfields⟩ := hack
  have hexec := exec_heard_end hon hl hr hrole hreach hend hfields
  have hrun : (if r.verdict = none then voidRunAfter s.voidRun .ack else s.voidRun) =
      if r.verdict = none then 0 else s.voidRun := rfl
  simp only [settleHeard, hvoid, Bool.false_eq_true, if_false, hrun] at hexec
  dsimp only
  generalize (if r.verdict = none then 0 else s.voidRun) = run at hexec ⊢
  have hmode : s.mode ≠ .unconfigured := mode_ne_unconfigured_of_listening hl
  have happlied := answerCensus_applied (applyFrame_applied f (heardEnd s r now lows run))
  have hrenew := answerCensus_renew (f := f) (t := applyFrame f (heardEnd s r now lows run))
  generalize answerCensus f (applyFrame f (heardEnd s r now lows run)) = t at hexec happlied hrenew
  obtain ⟨hrep, hroster, htarget, hover, hsame, hle, hframe⟩ := happlied
  have hq := heardEnd_eq s r now lows run
  have hclaim : (heardEnd s r now lows run).outbox.claim = s.outbox.claim := by
    rw [heardEnd, joinCensus_outbox]; rfl
  rw [hq] at hrep hroster htarget hover hsame hle hframe
  have hfind : ∀ a, findEntry a t.replicas = findEntry a (putEntry f.entry s.replicas) := fun a => by rw [hrep]; rfl
  refine ⟨t, hexec, hrep, ?_, fun a ha => ?_, hroster, htarget, fun hinv hfit hlt => ?_, fun hinv => ⟨?_, ?_⟩,
    fun h => ?_, fun hk hm hw => ?_, hle, ?_⟩
  · rw [hfind]; exact findEntry_putEntry_self f.entry _
  · rw [hfind]; exact findEntry_putEntry_of_ne (e := f.entry) ha _
  · have hinv' : State.RosterInv { s with replicas := putEntry f.entry s.replicas } :=
      hinv.put (e := f.entry) hsender rfl rfl
    have hsum := (rosterAddsUp_of hinv hon hmode).2.1
    have hsum' := (rosterAddsUp_of hinv' hon hmode).2.1
    have hne : ¬ sameEntry f s.replicas := by
      intro h
      have hequal : ((putEntry f.entry s.replicas).map Entry.holding).sum = (s.replicas.map Entry.holding).sum :=
        sumHoldings_putEntry_same hinv.1 h
      have hlt' : s.budget < State.rosterSum { s with replicas := putEntry f.entry s.replicas } := hlt
      simp only [hequal] at hsum'
      omega
    exact hover hne (decide_eq_false (Nat.not_lt.2 hfit)) hlt
  · exact rosterAddsUp_of hinv hon hmode
  · exact rosterAddsUp_of (hinv.put (e := f.entry) hsender rfl rfl) hon hmode
  · obtain ⟨ht, hh, hlatch, hsupp, hcl⟩ := hsame h
    exact ⟨ht, hh, hlatch, hsupp, hcl.trans hclaim⟩
  · exact hrenew hk ((congrArg State.mode hframe).trans hm) hw
  · have hretry : t.censusRetry = (heardEnd s r now lows run).censusRetry :=
      (congrArg State.censusRetry hframe :)
    rw [hrep, hretry]
    refine allocatorOnly.trans ?_ hframe
    exact allocatorOnly.outbox (s := { atFrameEnd s r now lows with
      voidRun := run, replicas := putEntry f.entry s.replicas
      censusRetry := (heardEnd s r now lows run).censusRetry }) _

end Sys2Proof.Machine
end

section
/-! RESET, the read event and the option record (07 sections 7.1 to 7.3, 12 section 12.3). -/

namespace Sys2Proof.Machine

/-! ### RESET and the read event -/

/-- Settles O4: the state of reset with the memory as a write in progress left it drives no pin. -/
theorem resetEndsEverything : Obligations.ResetEndsEverything := by
  intro s
  have heq := holdReset_eq s
  have hheld : (holdReset s).resetHeld = true := congrArg State.resetHeld heq
  have hopen : (holdReset s).opening = none := congrArg State.opening heq
  refine ⟨_, rfl, heq, fun hw => ?_, fun b hb => ?_, ?_, ?_, ?_, fun selHigh requestBytes n => ?_⟩
  · simp [holdReset, hw]
  · refine ⟨Config.bytesWritten s.fresh % 6, by omega, ?_⟩
    simp [holdReset, hb]
  · simp [State.shareDriven, State.lineOn, hheld]
  · simp [State.attnLow, hheld]
  · simp [State.driveMilliamps, hheld]
  · simp [State.sdo, hheld]

/-- Settles O5: START by `enterStart_eq`, where nothing is wanted and so the target is 0, or UNCONFIGURED. -/
theorem readEventEntersStartOrUnconfigured : Obligations.ReadEventEntersStartOrUnconfigured := by
  intro straps lineLow selectLow s hheld
  have hexec : exec (.readEvent ⟨straps, lineLow, selectLow⟩) s = .next (releaseReset ⟨straps, lineLow, selectLow⟩ s) :=
    congrArg Host.Outcome.next (if_pos hheld)
  rw [hexec]
  rcases releaseReset_cases ⟨straps, lineLow, selectLow⟩ s with ⟨hok, e⟩ | ⟨hbad, e⟩
  · refine ⟨fun _ => congrArg Host.Outcome.next ?_, fun h => absurd hok h⟩
    have htarget : (enterStart { readState ⟨straps, lineLow, selectLow⟩ s with
        lineLow := if lineLow then some .unseen else none }).target = 0 := by
      rw [enterStart_target]
      refine fairTarget_of_no_demand ?_ ?_
      · simp [enterStart, findEntry]
      · simp [State.advertised, enterStart, readState, State.reset]
    rw [e, enterStart_eq rfl, htarget]
    simp only [readState, hok]
    rfl
  · exact ⟨fun h => absurd h hbad, fun _ => congrArg Host.Outcome.next e⟩

/-! ### The option record -/

/-- Two neighbouring bits of a byte as a code (R176). -/
theorem code_of_bits (b : Byte) (i : Nat) :
    b.toNat / 2 ^ i % 4 = 2 * (b.getLsbD (i + 1)).toNat + (b.getLsbD i).toNat := by
  simp only [BitVec.getLsbD, Nat.toNat_testBit, Nat.pow_succ, ← Nat.div_div_eq_div_mul]
  omega

/-- The low bits of a byte are clear exactly when none of them is set (R120, R176). -/
theorem mod_two_pow_ne_zero (b : Byte) (k : Nat) : b.toNat % 2 ^ k ≠ 0 ↔ ∃ i, i < k ∧ b.getLsbD i = true := by
  constructor
  · intro h
    obtain ⟨i, hi⟩ := Nat.exists_testBit_of_ne_zero h
    rw [Nat.testBit_mod_two_pow, Bool.and_eq_true, decide_eq_true_eq] at hi
    exact ⟨i, hi⟩
  · rintro ⟨i, hi, hb⟩ h0
    have hbit : (b.toNat % 2 ^ k).testBit i = true := by
      rw [Nat.testBit_mod_two_pow, decide_eq_true hi]
      exact hb
    rw [h0, Nat.zero_testBit] at hbit
    cases hbit

section
variable (r : Record)

theorem Record.unitCode_eq : r.unitCode = 2 * (r.b3.getLsbD 7).toNat + (r.b3.getLsbD 6).toNat := by
  rw [← code_of_bits r.b3 6, Record.unitCode]
  have := r.b3.isLt
  omega

theorem Record.bitTimeCode_eq : r.bitTimeCode = 2 * (r.b3.getLsbD 5).toNat + (r.b3.getLsbD 4).toNat :=
  code_of_bits r.b3 4

theorem Record.leaseCode_eq : r.leaseCode = 2 * (r.b3.getLsbD 3).toNat + (r.b3.getLsbD 2).toNat :=
  code_of_bits r.b3 2

/-- The unit size by its two bits (R1). -/
theorem Record.unit_eq : r.unit = match r.b3.getLsbD 7, r.b3.getLsbD 6 with
    | false, false => 5 | false, true => 10 | true, false => 25 | true, true => 50 := by
  rw [Record.unit, unitCode_eq]
  cases r.b3.getLsbD 7 <;> cases r.b3.getLsbD 6 <;> rfl

theorem Record.bitTime_eq : r.bitTime = match r.b3.getLsbD 5, r.b3.getLsbD 4 with
    | false, false => 10 | false, true => 20 | true, false => 50 | true, true => 100 := by
  rw [Record.bitTime, bitTimeCode_eq]
  cases r.b3.getLsbD 5 <;> cases r.b3.getLsbD 4 <;> rfl

theorem Record.lease_eq : r.lease = match r.b3.getLsbD 3, r.b3.getLsbD 2 with
    | false, false => 256 | false, true => 512 | true, false => 1024 | true, true => 2048 := by
  rw [Record.lease, leaseCode_eq]
  cases r.b3.getLsbD 3 <;> cases r.b3.getLsbD 2 <;> rfl

theorem Record.blank_iff : r.bytes = [255, 255, 255, 255, 255] ↔ r = Record.blank := by
  obtain ⟨b1, b2, b3, b4, b5⟩ := r
  simp [Record.bytes, Record.blank]

theorem Record.spareSet_iff : r.spareSet = true ↔
    r.b3.getLsbD 1 = true ∨ r.b3.getLsbD 0 = true ∨ ∃ i, i < 5 ∧ r.b4.getLsbD i = true := by
  have h3 : (∃ i, i < 2 ∧ r.b3.getLsbD i = true) ↔ r.b3.getLsbD 1 = true ∨ r.b3.getLsbD 0 = true := by
    constructor
    · rintro ⟨i, hi, hb⟩
      obtain rfl | rfl : i = 0 ∨ i = 1 := by omega
      · exact .inr hb
      · exact .inl hb
    · rintro (h | h)
      · exact ⟨1, by omega, h⟩
      · exact ⟨0, by omega, h⟩
  have h2 : r.b3.toNat % 4 ≠ 0 ↔ _ := mod_two_pow_ne_zero r.b3 2
  have h5 : r.b4.toNat % 32 ≠ 0 ↔ _ := mod_two_pow_ne_zero r.b4 5
  rw [Record.spareSet, Bool.or_eq_true, decide_eq_true_eq, decide_eq_true_eq, h2, h3, h5, or_assoc]

theorem Record.timingValid_iff : r.timingValid = true ↔ ¬ 1000 * (r.lease / 4) < 16 * 115 * r.bitTime := by
  rw [Record.timingValid, decide_eq_true_eq, Nat.not_lt]
  exact Iff.rfl

end

/-- Settles O6: the values by their bits, and the five lines of the table one after the other. -/
theorem recordJudgedByFirstLineThatApplies : Obligations.RecordJudgedByFirstLineThatApplies := by
  intro r unit bitTime lease blank badCheck noBudget spare slow
  have hlease : r.lease = lease := Record.lease_eq r
  have hbitTime : r.bitTime = bitTime := Record.bitTime_eq r
  have hblank : blank ↔ r = Record.blank := Record.blank_iff r
  have hspare : r.spareSet = true ↔ spare := Record.spareSet_iff r
  have hslow : (!r.timingValid) = true ↔ slow := by
    have htiming := Record.timingValid_iff r
    rw [hlease, hbitTime] at htiming
    rw [Bool.not_eq_true', ← Bool.not_eq_true, htiming, not_not]
  refine ⟨rfl, rfl, Record.unit_eq r, hbitTime, hlease, congrArg (· / 4) hlease, congrArg (· / 2) hlease,
    fun h => if_pos (hblank.1 h), fun h1 h2 => ?_, fun h1 h2 h3 => ?_, fun h1 h2 h3 h4 => ?_,
    fun h1 h2 h3 h4 h5 => ?_, fun h1 h2 h3 h4 h5 => ?_⟩
  all_goals rw [Record.judge, if_neg (fun h => h1 (hblank.2 h))]
  · exact if_pos h2
  · exact (if_neg h2).trans (if_pos h3)
  · exact (if_neg h2).trans ((if_neg h3).trans (if_pos (hspare.2 h4)))
  all_goals have h4' : ¬ r.spareSet = true := fun h => h4 (hspare.1 h)
  · exact (if_neg h2).trans ((if_neg h3).trans ((if_neg h4').trans (if_pos (hslow.2 h5))))
  · exact (if_neg h2).trans ((if_neg h3).trans ((if_neg h4').trans (if_neg fun h => h5 (hslow.1 h))))

end Sys2Proof.Machine
end

section
/-! The local port (10 sections 10.1 to 10.4, 07 sections 7.3, 7.4 and 7.7): the requests outside DORMANT, each the effect
of its transaction, the attention pin, the bits on SDI and SDO, and the wake behind every transaction in DORMANT. -/

namespace Sys2Proof.Machine

/-! ### STATUS -/

/-- Settles O9: the data of STATUS, byte by byte. -/
theorem statusReportsTheStation : Obligations.StatusReportsTheStation := by
  intro s hr hs mode cause
  have hcause : dataByte s.faultCause.code = cause := by
    show dataByte s.faultCause.code = match s.faultCause with | .none => 0 | .overdraw => 1 | .clash => 2
    cases s.faultCause <;> rfl
  have hexec : s.mode ≠ .dormant → exec .status s = .next (answer .ok s.statusData s) := fun hm =>
    congrArg Host.Outcome.next (transaction_awake hr hs hm _)
  refine ⟨fun hu hd => ?_, fun hu => ?_⟩
  · have hmode : dataByte s.mode.code = mode := by
      show dataByte s.mode.code = match s.mode with
        | .unconfigured => 0 | .start => 1 | .learning => 2 | .member => 3
        | .isolated => 4 | .fault => 5 | .mute => 6 | .dormant => 7
      cases s.mode <;> rfl
    have hflags : s.flagsByte = dataByte ((if s.droopHold then 128 else 0)
        + (if s.budget < s.rosterSum then 64 else 0) + (if s.under then 32 else 0)
        + (if s.record.b4.getLsbD 7 then 16 else 0)) := by
      have hover : s.overcommitted.toNat = if s.budget < s.rosterSum then 1 else 0 := by
        by_cases h : s.budget < s.rosterSum <;> simp [State.overcommitted, h]
      have hlone : s.record.lone = s.record.b4.getLsbD 7 := rfl
      rw [State.flagsByte, hover, hlone]
      congr 1
      cases s.droopHold <;> cases s.under <;> cases s.record.b4.getLsbD 7 <;>
        by_cases h : s.budget < s.rosterSum <;> simp [h]
    rw [hexec hd]
    simp only [answer, State.statusData, State.reported, hu, if_false, hmode, hcause, hflags, dataWord]
    rfl
  · rw [hexec (by simp [hu])]
    simp only [answer, State.statusData, State.reported, hu, if_true, hcause, dataWord]
    rfl

/-! ### MASK and ATTN -/

theorem EventKind.exists_bit {i : Nat} (h : i < 10) : ∃ k : EventKind, k.bit = i := by
  interval_cases i
  exacts [⟨.fault, rfl⟩, ⟨.muted, rfl⟩, ⟨.isolated, rfl⟩, ⟨.droop, rfl⟩, ⟨.restarted, rfl⟩, ⟨.output, rfl⟩,
    ⟨.abandoned, rfl⟩, ⟨.overcommit, rfl⟩, ⟨.under, rfl⟩, ⟨.roster, rfl⟩]

/-- ATTN is low exactly when RESET is released and an unmasked kind is latched (R173). -/
theorem attnLow_iff {s : State} (hr : s.resetHeld = false) :
    s.attnLow = true ↔ ∃ k : EventKind, s.latched k = true ∧ s.masked k = false := by
  have hattn : s.attnLow = true ↔ s.latch &&& ~~~s.mask ≠ 0 := by simp [State.attnLow, hr]
  rw [hattn]
  constructor
  · intro h
    obtain ⟨i, hi⟩ : ∃ i, (s.latch &&& ~~~s.mask).getLsbD i = true := by
      by_contra hno
      refine h (BitVec.eq_of_getLsbD_eq fun i _ => ?_)
      simpa using (not_exists.1 hno) i
    simp only [BitVec.getLsbD_and, BitVec.getLsbD_not, Bool.and_eq_true, decide_eq_true_eq,
      Bool.not_eq_true'] at hi
    obtain ⟨hl, hlt, hm⟩ := hi
    obtain ⟨k, rfl⟩ := EventKind.exists_bit hlt
    exact ⟨k, hl, hm⟩
  · rintro ⟨k, hl, hm⟩ h0
    have hbit : (s.latch &&& ~~~s.mask).getLsbD k.bit = true := by
      have hl' : s.latch.getLsbD k.bit = true := hl
      have hm' : s.mask.getLsbD k.bit = false := hm
      rw [BitVec.getLsbD_and, BitVec.getLsbD_not, hl', hm', decide_eq_true k.bit_lt]
      rfl
    rw [h0] at hbit
    simp at hbit

/-- The bits of the mask word (R172, R179). -/
theorem maskWord_bit (high low : Byte) (k : EventKind) :
    (maskWord high low).getLsbD k.bit = if k.bit < 8 then low.getLsbD k.bit else high.getLsbD (k.bit - 8) := by
  rw [maskWord, BitVec.getLsbD_setWidth, BitVec.getLsbD_append, decide_eq_true k.bit_lt, Bool.true_and]

/-- Settles O13: the mask as the request writes it, through the wake as well, and ATTN by its definition. -/
theorem maskAndAttnFollowTheRules : Obligations.MaskAndAttnFollowTheRules := by
  refine ⟨fun high low s hr hs hinv => ?_, fun s => ⟨fun h => by simp [State.attnLow, h], attnLow_iff, ?_⟩⟩
  · let effect : State → State := fun s => answer .ok [] { s with mask := maskWord high low }
    have hlatch : (transaction effect s).latch = s.latch :=
      transaction_field State.latch hr hs effect fun hm => wakeStation_latch (holding_of_dormant hinv hm)
    have hmask : (transaction effect s).mask = maskWord high low :=
      transaction_field State.mask hr hs effect fun _ => by simp [wakeStation]
    have hreset : (transaction effect s).resetHeld = false :=
      (transaction_field State.resetHeld hr hs effect fun _ => by simp [wakeStation]).trans hr
    refine ⟨transaction effect s, rfl, transaction_reply hr hs effect, hlatch, fun k => ?_, ?_, fun hm => ?_⟩
    · rw [State.masked, hmask, maskWord_bit]
    · rw [attnLow_iff hreset]
      simp only [State.latched, hlatch]
    · rw [transaction_awake hr hs hm]
      rfl
  · intro hr pins t ht
    obtain rfl := Host.Outcome.next.inj ht
    rw [if_pos hr]
    have hlatch : (releaseReset pins s).latch = EventKind.restarted.word := by
      rcases releaseReset_cases pins s with ⟨-, e⟩ | ⟨-, e⟩ <;> rw [e]
      · exact enterStart_latch rfl
      · rfl
    have hmask : (releaseReset pins s).mask = 0 := by
      rcases releaseReset_cases pins s with ⟨-, e⟩ | ⟨-, e⟩ <;> rw [e] <;> simp [readState, State.reset]
    have hreset : (releaseReset pins s).resetHeld = false := by
      rcases releaseReset_cases pins s with ⟨-, e⟩ | ⟨-, e⟩ <;> rw [e] <;> simp [readState]
    rw [attnLow_iff hreset]
    refine ⟨.restarted, ?_, ?_⟩
    · rw [State.latched, hlatch]; rfl
    · rw [State.masked, hmask]; rfl

/-! ### CLEAR, SLEEP and PROGRAM -/

/-- Settles O16: the entry to START of a station that holds nothing, or a refusal. -/
theorem clearLeavesFaultForStart : Obligations.ClearLeavesFaultForStart := by
  intro s hr hs
  refine ⟨fun hm hh => ?_, fun hm hd => ?_⟩
  · have hexec : exec .clear s = .next (answer .ok [] (enterStart s)) := by
      show Host.Outcome.next (transaction clearRequest s) = _
      rw [transaction_awake hr hs (by simp [hm]), clearRequest, if_pos hm]
    have hbox : (enterStart s).outbox = s.outbox.clear := congrArg State.outbox (enterStart_eq hh)
    refine ⟨_, hexec, enterStart_target s, ?_, ?_, ?_⟩
    · rw [answer_outbox, hbox]
      exact ⟨rfl, rfl, rfl, rfl, rfl⟩
    · rw [answer_outbox, hbox]
      cases hi : s.outbox.inFlight <;> simp [Outbox.clear, Outbox.cancel, hi]
    · rw [enterStart_eq hh]
      rfl
  · show Host.Outcome.next (transaction clearRequest s) = _
    rw [transaction_awake hr hs hd, clearRequest, if_neg hm]
    rfl

/-- Entry to DORMANT of a station that holds nothing (R132): everything it writes. -/
theorem enterDormant_eq {s : State} (h : s.holding = 0) :
    enterDormant s = { s with
      mode := .dormant, replicas := [], target := 0, suppression := none, outbox := s.outbox.clear
      censusRetry := none, opening := none, frame := none, synchronised := false, joinCondition := false
      highTime := 0, lineLow := s.lineLow.map fun _ => .unseen, wakeArmed := false, renewTimer := .stopped
      windowCap := none, muteWait := none, level := 0, rampTarget := 0, settle := 0, overdrawRun := 0, underRun := 0
      under := false } := by
  unfold enterDormant
  rw [setHolding_same h.symm]
  exact recompute_idle rfl h (advertised_of_silent_mode rfl)

theorem maySleep_iff {s : State} :
    s.maySleep = true ↔ s.mode = .member ∧ s.holding = 0 ∧ s.requested = 0 ∧ s.outbox.isEmpty = true := by
  simp [State.maySleep, and_assoc]

/-- Settles O17: the entry to DORMANT of an idle MEMBER, or a refusal. -/
theorem sleepEntersDormantOnlyWhenIdle : Obligations.SleepEntersDormantOnlyWhenIdle := by
  intro s hr hs hd
  have hexec : exec .sleep s = .next (sleepRequest s) := congrArg Host.Outcome.next (transaction_awake hr hs hd _)
  refine ⟨fun hm hh hq hbox => ?_, fun hno => ?_⟩
  · have hempty : s.outbox.isEmpty = true := by rw [hbox]; rfl
    have hclear : s.outbox.clear = Outbox.empty := by rw [hbox]; rfl
    rw [hexec, sleepRequest, if_pos (maySleep_iff.2 ⟨hm, hh, hq, hempty⟩), enterDormant_eq hh, hclear]
    rfl
  · rw [hexec, sleepRequest, if_neg]
    · rfl
    · rw [maySleep_iff]
      rintro ⟨hm, hh, hq, hempty⟩
      simp [hm, hh, hq, hempty] at hno

/-- Settles O19: PROGRAM under its condition and outside it, and the completed write. -/
theorem programWritesTheRecordOnce : Obligations.ProgramWritesTheRecordOnce := by
  intro b1 b2 b3 b4 b5 s hr hd
  have hexec : s.straddling = false →
      exec (.program b1 b2 b3 b4 b5) s = .next (programRequest ⟨b1, b2, b3, b4, b5⟩ s) := fun hs =>
    congrArg Host.Outcome.next (transaction_awake hr hs hd _)
  refine ⟨fun hs hm hc hw => ?_, fun hs hno => ?_, fun hw => ?_⟩
  · rw [hexec hs, programRequest, if_pos (by simp [State.mayProgram, hm, hc, hw])]
    rfl
  · rw [hexec hs, programRequest, if_neg]
    · rfl
    · simp only [State.mayProgram, Bool.and_eq_true, decide_eq_true_eq, Bool.not_eq_true']
      rintro ⟨⟨hm, hc⟩, hw⟩
      simp [hm, hc, hw] at hno
  · refine congrArg Host.Outcome.next ?_
    simp only [completeWrite, hw]

end Sys2Proof.Machine
end

section
/-! DEMAND (10 section 10.3, 02 section 2.1): the requested demand, the recompute that a changed advertised demand
brings, and the intent that announces it. -/

/-- The reply is the port's, not the allocator's. -/
theorem allocatorOnly.withReply {s t : Sys2Proof.Machine.State} (reply : List Sys2Proof.Byte) (h : allocatorOnly s t) :
    allocatorOnly { s with reply := reply } { t with reply := reply } := by
  cases s; cases t
  simp only [allocatorOnly, Sys2Proof.Machine.State.mk.injEq] at h ⊢
  simp_all

namespace Sys2Proof.Machine

/-! ### The requested demand -/

section
variable {r : Nat} {s : State}

theorem setRequested_changed (h : r ≠ s.requested) :
    setRequested r s = renewOnRise s (announceDemand s (ownPass s (liftSuppression { s with requested := r }))) :=
  if_neg h

theorem setRequested_same (h : r = s.requested) : setRequested r s = s := if_pos h

@[simp] theorem setRequested_requested (r : Nat) (s : State) : (setRequested r s).requested = r := by
  unfold setRequested
  split
  next h => exact h.symm
  · simp

theorem setRequested_allocatorOnly (r : Nat) (s : State) :
    allocatorOnly { s with requested := r } (setRequested r s) := by
  unfold setRequested
  split
  next h => rw [h]; exact allocatorOnly.rfl
  · exact (((allocatorOnly.rfl (s := { s with requested := r })).liftSuppression.ownPass s).announceDemand s).renewOnRise s

/-- An unchanged own entry brings no pass (R18). -/
theorem ownPass_unchanged {before s : State} (hh : before.holding = s.holding)
    (ha : before.advertised = s.advertised) : ownPass before s = s := by
  rw [ownPass, if_neg]
  simp [ownChanged, hh, ha]

theorem announceDemand_unchanged {before s : State} (h : before.advertised = s.advertised) :
    announceDemand before s = s := by
  rw [announceDemand, if_neg]
  simp [h]

/-- Neither quantity rises from 0 when both are as before (R105). -/
theorem renewOnRise_unchanged {before s : State} (hh : before.holding = s.holding)
    (ha : before.advertised = s.advertised) : renewOnRise before s = s := by
  rw [renewOnRise, if_neg]
  simp only [hh, ha, Bool.and_eq_true, Bool.or_eq_true, decide_eq_true_eq]
  omega

/-- Where nothing is advertised a changed demand lifts suppression and does no more (R24, R37). -/
theorem setRequested_silent (hne : r ≠ s.requested) (h : s.mode.advertises = false ∨ s.droopHold = true) :
    setRequested r s = { s with requested := r, suppression := none } := by
  have ha : ∀ t : State, t.mode = s.mode → t.droopHold = s.droopHold → t.advertised = 0 := by
    intro t hm hd
    rw [State.advertised, hm, hd]
    rcases h with h | h <;> simp [h]
  have hs := ha s rfl rfl
  have ht := ha (liftSuppression { s with requested := r }) rfl rfl
  have hsame : s.advertised = (liftSuppression { s with requested := r }).advertised := hs.trans ht.symm
  rw [setRequested_changed hne, ownPass_unchanged (before := s) (s := liftSuppression { s with requested := r }) rfl hsame,
    announceDemand_unchanged hsame,
    renewOnRise_unchanged (before := s) (s := liftSuppression { s with requested := r }) rfl hsame]
  rfl

end

theorem ceiling_eq (s : State) : s.ceiling = min s.record.b2.toNat s.record.b1.toNat := rfl

/-- DEMAND outside UNCONFIGURED and DORMANT (R166). -/
theorem exec_demand {s : State} (hr : s.resetHeld = false) (hs : s.straddling = false) (hd : s.mode ≠ .dormant)
    (hu : s.mode ≠ .unconfigured) (d : Byte) :
    exec (.demand d) s = .next (answer (if s.ceiling < d.toNat then .clipped else .ok) []
      (setRequested (min d.toNat s.ceiling) s)) := by
  show Host.Outcome.next (transaction (demandRequest d) s) = _
  rw [transaction_awake hr hs hd, demandRequest, if_neg hu]

/-- Settles O14: the clip and its status, and what a changed value does where nothing is advertised. -/
theorem demandSetsRequestedDemand : Obligations.DemandSetsRequestedDemand := by
  intro d s hr hs hd
  refine ⟨fun hu => ?_, fun hu => ?_⟩
  · show Host.Outcome.next (transaction (demandRequest d) s) = _
    rw [transaction_awake hr hs hd, demandRequest, if_pos hu]
    rfl
  · refine ⟨_, exec_demand hr hs hd hu d, ?_, ?_, ?_, fun h => ?_, fun h hsilent => ?_⟩
    · rw [answer_requested, setRequested_requested, ceiling_eq]
    · rw [answer_reply, ceiling_eq]
      split <;> rfl
    · rw [answer_requested, setRequested_requested]
      exact (setRequested_allocatorOnly (min d.toNat s.ceiling) s).withReply _
    · rw [answer_requested, setRequested_requested] at h
      rw [setRequested_same h]
      rfl
    · rw [answer_requested, setRequested_requested] at h
      have hadv : s.mode.advertises = false ∨ s.droopHold = true := by
        rcases hsilent with h | h | h | h
        · exact .inr h
        all_goals exact .inl (by rw [h]; rfl)
      rw [setRequested_silent h hadv]
      rfl

/-! ### The announcement -/

/-- A further RENEW leaves a notice with the intent that has it (R85, R86). -/
theorem announcing_queueRenew {s : State} (h : announcing s.outbox) : announcing (queueIntent .renew s).outbox := by
  rw [queueIntent_renew]
  rcases h with h | ⟨hy, i, hc, hn⟩ | ⟨hy, hc, -⟩
  · exact .inl h
  · exact .inr (.inl ⟨hy, i, hc, hn⟩)
  · exact .inr (.inr ⟨hy, hc, _, rfl, rfl⟩)

theorem renewOnRise_announcing (before : State) {s : State} (h : announcing s.outbox) :
    announcing (renewOnRise before s).outbox := by
  unfold renewOnRise
  split
  · exact announcing_queueRenew h
  · exact h

theorem announceDemand_announcing {before s : State} (hm : s.mode.takesNotice = true)
    (ha : before.advertised ≠ s.advertised) : announcing (announceDemand before s).outbox := by
  rw [announceDemand, if_pos (by simp [hm, ha])]
  exact demandNotice_announcing s

/-- The sum does not read a demand (R16). -/
theorem sumHoldings_putEntry_congr {e f : Entry} (ha : e.address = f.address) (hh : e.holding = f.holding)
    (l : List Entry) : sumHoldings (putEntry e l) = sumHoldings (putEntry f l) := by
  induction l with
  | nil => simp [putEntry, hh]
  | cons x xs ih =>
    simp only [putEntry, ha]
    split
    · simp [hh]
    · split
      · simp [hh]
      · simp [ih]

/-- A station that differs in its demand alone has the same roster sum (R16). -/
theorem rosterSum_congr {s t : State} (ho : t.hasOwnEntry = s.hasOwnEntry) (ha : t.address = s.address)
    (hh : t.holding = s.holding) (hp : t.replicas = s.replicas) : t.rosterSum = s.rosterSum := by
  unfold State.rosterSum State.roster
  rw [ho, hp]
  split
  · exact sumHoldings_putEntry_congr ha hh _
  · rfl

theorem overcommitted_congr {s t : State} (hr : t.record = s.record) (ho : t.hasOwnEntry = s.hasOwnEntry)
    (ha : t.address = s.address) (hh : t.holding = s.holding) (hp : t.replicas = s.replicas) :
    t.overcommitted = s.overcommitted := by
  unfold State.overcommitted State.budget
  rw [rosterSum_congr ho ha hh hp, hr]

/-- No overcommit begins where it was there before, or is not there (R17). -/
theorem beginOvercommit_unchanged {was : Bool} {s : State} (h : s.overcommitted = was) : beginOvercommit was s = s := by
  rw [beginOvercommit, if_neg]
  cases was <;> simp [h]

/-- Outside MEMBER a changed demand of a station that holds nothing brings the new target alone (R31). -/
theorem ownPass_outside {before s : State} (hm : s.mode ≠ .member) (hh : s.holding = 0)
    (hover : s.overcommitted = before.overcommitted) (hc : ownChanged before s = true) :
    ownPass before s = { s with target := s.fairTarget, suppression := none } := by
  have hover' : (liftSuppression s).overcommitted = before.overcommitted := hover
  rw [ownPass, if_pos hc, rosterPass, beginOvercommit_unchanged hover']
  exact recompute_outside (s := liftSuppression s) hm hh

/-- A pass for a changed own entry takes the target afresh (R31). -/
theorem ownPass_target {before s : State} (hc : ownChanged before s = true) :
    (ownPass before s).target = (ownPass before s).fairTarget := by
  rw [ownPass, if_pos hc]
  exact rosterPass_target _

section
variable {r : Nat} {s : State}

/-- A state that advertises, with droop hold clear, advertises what is requested (R26). -/
theorem advertised_of_advertises (hm : s.mode.advertises = true) (hd : s.droopHold = false) :
    s.advertised = s.requested := by
  simp [State.advertised, hm, hd]

/-- Where the demand is advertised its change is one of the own entry (R18). -/
theorem ownChanged_requested (hne : r ≠ s.requested) (hm : s.mode.advertises = true) (hd : s.droopHold = false) :
    ownChanged s (liftSuppression { s with requested := r }) = true := by
  have ht : (liftSuppression { s with requested := r }).advertised = r := advertised_of_advertises hm hd
  simp only [ownChanged, Bool.or_eq_true, decide_eq_true_eq]
  rw [ht, advertised_of_advertises hm hd]
  exact .inr hne.symm

theorem setRequested_advertised (hm : s.mode.advertises = true) (hd : s.droopHold = false) :
    (setRequested r s).advertised = r := by
  rw [advertised_of_advertises (by simpa using hm) (by rw [setRequested_writes]; exact hd), setRequested_requested]

/-- A demand that is advertised and changed brings the target that the fair share now gives (R30, R31). -/
theorem setRequested_target (hne : r ≠ s.requested) (hm : s.mode.advertises = true) (hd : s.droopHold = false) :
    (setRequested r s).target = (setRequested r s).fairTarget := by
  rw [setRequested_changed hne]
  refine ((renewOnRise_target _ _).trans (announceDemand_target _ _)).trans
    ((ownPass_target (ownChanged_requested hne hm hd)).trans ?_)
  exact fairTarget_congr (by simp) (by simp) (by simp) (by simp [State.hasOwnEntry])
    (by simp [State.advertised]) |>.symm

/-- In LEARNING and MEMBER a changed demand is left to an intent that announces it (R26, R86). -/
theorem setRequested_announcing (hne : r ≠ s.requested) (hm : s.mode.takesNotice = true)
    (hd : s.droopHold = false) : announcing (setRequested r s).outbox := by
  have hadv : s.mode.advertises = true := by revert hm; cases s.mode <;> decide
  rw [setRequested_changed hne]
  refine renewOnRise_announcing _ (announceDemand_announcing (by simpa using hm) ?_)
  have ht : (ownPass s (liftSuppression { s with requested := r })).advertised = r := by
    rw [advertised_of_advertises (by simpa using hadv) (by simpa using hd)]
    simp
  rw [ht, advertised_of_advertises hadv hd]
  exact hne.symm

/-- In START a changed demand queues nothing (R26, R105). -/
theorem setRequested_start_outbox (hm : s.mode = .start) (hh : s.holding = 0) (hne : r ≠ s.requested)
    (hd : s.droopHold = false) : (setRequested r s).outbox = s.outbox := by
  have hown : ownPass s (liftSuppression { s with requested := r }) =
      { s with requested := r, target := State.fairTarget { s with requested := r, suppression := none }
               suppression := none } :=
    ownPass_outside (before := s) (s := liftSuppression { s with requested := r }) (by simp [hm]) hh
      (overcommitted_congr rfl rfl rfl rfl rfl) (ownChanged_requested hne (by rw [hm]; rfl) hd)
  rw [setRequested_changed hne, hown, announceDemand, if_neg (by simp [hm, Mode.takesNotice]), renewOnRise,
    if_neg (by simp [hm])]

end

/-- Settles O15: the own entry has changed, so the target is taken afresh, and the notice follows in LEARNING and
MEMBER. -/
theorem changedDemandIsAnnounced : Obligations.ChangedDemandIsAnnounced := by
  intro d s hr hs hdroop hne
  generalize hv : min d.toNat s.ceiling = r at hne ⊢
  refine ⟨fun hm => ?_, fun hm hh => ?_⟩
  · have hd : s.mode ≠ .dormant := by rcases hm with h | h <;> simp [h]
    have hu : s.mode ≠ .unconfigured := by rcases hm with h | h <;> simp [h]
    have hmode : s.mode.advertises = true := by rcases hm with h | h <;> rw [h] <;> rfl
    have hnotice : s.mode.takesNotice = true := by rcases hm with h | h <;> rw [h] <;> rfl
    refine ⟨_, exec_demand hr hs hd hu d, ?_, ?_, ?_, ?_⟩ <;> rw [hv]
    · exact setRequested_advertised hmode hdroop
    · exact setRequested_target hne hmode hdroop
    · exact setRequested_holding_le r s
    · exact setRequested_announcing hne hnotice hdroop
  · have hmode : s.mode.advertises = true := by rw [hm]; rfl
    refine ⟨_, exec_demand hr hs (by simp [hm]) (by simp [hm]) d, ?_, ?_, ?_⟩ <;> rw [hv]
    · exact setRequested_advertised hmode hdroop
    · exact setRequested_target hne hmode hdroop
    · exact setRequested_start_outbox hm hh hne hdroop

end Sys2Proof.Machine
end

section
/-! The local port's transactions as a whole (10 section 10.1, 07 section 7.7): the bits on SDI and SDO, the transactions
that change nothing, and the wake behind every transaction in DORMANT. -/

namespace Sys2Proof.Machine

/-! ### The bits on SDI (R161, R180) -/

/-- The bits that spell a sequence of bytes, each most significant first. -/
def spelled (bytes : List Byte) : List Bool :=
  bytes.flatMap fun b => (List.range 8).map fun i => b.getLsbD (7 - i)

@[simp] theorem spelled_nil : spelled [] = [] := rfl

theorem spelled_cons (b : Byte) (bytes : List Byte) :
    spelled (b :: bytes) = b.getLsbD 7 :: b.getLsbD 6 :: b.getLsbD 5 :: b.getLsbD 4 :: b.getLsbD 3 :: b.getLsbD 2
      :: b.getLsbD 1 :: b.getLsbD 0 :: spelled bytes := rfl

/-- Eight bits, most significant first, give the byte back (R174). -/
theorem bitsValue_byte : ∀ b : Byte, BitVec.ofNat 8 (bitsValue [b.getLsbD 7, b.getLsbD 6, b.getLsbD 5, b.getLsbD 4,
    b.getLsbD 3, b.getLsbD 2, b.getLsbD 1, b.getLsbD 0]) = b := by decide

/-- Fewer than eight bits make no byte (R162). -/
theorem bytesOfBits_short : ∀ {part : List Bool}, part.length < 8 → bytesOfBits part = []
  | [], _ | [_], _ | [_, _], _ | [_, _, _], _ | [_, _, _, _], _ | [_, _, _, _, _], _ | [_, _, _, _, _, _], _
  | [_, _, _, _, _, _, _], _ => rfl
  | _ :: _ :: _ :: _ :: _ :: _ :: _ :: _ :: _, h => by simp only [List.length_cons] at h; omega

theorem bytesOfBits_spelled (bytes : List Byte) (part : List Bool) :
    bytesOfBits (spelled bytes ++ part) = bytes ++ bytesOfBits part := by
  induction bytes with
  | nil => rfl
  | cons b bytes ih =>
    rw [spelled_cons]
    simp only [List.cons_append, bytesOfBits]
    rw [bitsValue_byte, ih]

/-- The first `n` bits spell the bytes complete by then (R162). -/
theorem bytesOfBits_take (bytes : List Byte) (n : Nat) :
    bytesOfBits ((spelled bytes).take n) = bytes.take (n / 8) := by
  induction bytes generalizing n with
  | nil => simp [bytesOfBits]
  | cons b bytes ih =>
    by_cases h : n < 8
    · rw [bytesOfBits_short (by rw [List.length_take]; omega), Nat.div_eq_of_lt h, List.take_zero]
    · obtain ⟨m, rfl⟩ : ∃ m, n = m + 8 := ⟨n - 8, by omega⟩
      rw [spelled_cons]
      simp only [List.take_succ_cons, bytesOfBits]
      rw [bitsValue_byte, ih, Nat.add_div_right m (by decide), List.take_succ_cons]

theorem spelled_length (bytes : List Byte) : (spelled bytes).length = 8 * bytes.length := by
  induction bytes with
  | nil => rfl
  | cons b bytes ih => rw [spelled_cons]; simp only [List.length_cons, ih]; omega

/-- The bytes of a request are read as it (R177). -/
theorem requestOfBytes_eq {c : Instr} {bytes : List Byte} (h : bytesOfRequest c = some bytes) :
    requestOfBytes bytes = c := by
  cases c
  case badRequest code =>
    rw [bytesOfRequest] at h
    split at h
    · cases h
    next hname =>
      cases h
      simp only [codeNamesRequest, Bool.and_eq_true, decide_eq_true_eq, not_and, not_le] at hname
      simp only [requestOfBytes]
      split
      case h_11 => exact if_neg (by simpa [codeNamesRequest] using hname)
      all_goals omega
  all_goals cases h
  all_goals rfl

/-- Fewer bytes than a request has are a select that rises early (R162). -/
theorem requestOfBytes_cut {c : Instr} {bytes : List Byte} (h : bytesOfRequest c = some bytes) {m : Nat}
    (hm : m < bytes.length) : requestOfBytes (bytes.take m) = .selectRisesEarly := by
  cases c
  case badRequest code =>
    rw [bytesOfRequest] at h
    split at h
    · cases h
    · cases h
      obtain rfl : m = 0 := by simpa using hm
      rfl
  all_goals cases h
  all_goals
    simp only [List.length_cons, List.length_nil] at hm
    interval_cases m <;> rfl

/-! ### The bits on SDO (R161, R180) -/

section
variable {s : State} {requestBytes n k : Nat}

theorem sdo_driven (hr : s.resetHeld = false) (hk : k < 8) :
    s.sdo false requestBytes (8 * n + k) =
      if (s.sdoByte requestBytes n).getLsbD (7 - k) then .high else .low := by
  have hdiv : (8 * n + k) / 8 = n := by omega
  have hmod : (8 * n + k) % 8 = k := by omega
  simp [State.sdo, hr, hdiv, hmod]

theorem sdoByte_request (h : n < requestBytes) : s.sdoByte requestBytes n = 0 := if_pos h

theorem sdoByte_reply : s.sdoByte requestBytes (requestBytes + n) = s.reply.getD n 0 := by
  simp [State.sdoByte, State.replyByte]

end

/-- A transaction from before the read event ends as ignored (R118). -/
theorem exec_straddling {c : Instr} {s : State} (hc : (bytesOfRequest c).isSome = true) (hr : s.resetHeld = false)
    (hs : s.straddling = true) : exec c s = .next { s with straddling := false } := by
  have htrans : ∀ effect, (.next (transaction effect s) : Host.Outcome State Fault Refusal) =
      .next { s with straddling := false } := fun effect => by simp [transaction, hr, hs]
  cases c
  case badRequest code =>
    have hname : codeNamesRequest code = false := by
      cases h : codeNamesRequest code
      · rfl
      · simp [bytesOfRequest, h] at hc
    refine (congrArg Host.Outcome.next ?_).trans (htrans (answer .badRequest []))
    rw [badRequest, if_neg (by simp [hname])]
  all_goals first
    | exact htrans _
    | exact absurd hc (by simp [bytesOfRequest])

/-- Settles O20: the refusals by their effects, the bits on SDI by `bytesOfBits_take`, those on SDO byte by byte. -/
theorem badAndCutRequestsChangeNothing : Obligations.BadAndCutRequestsChangeNothing := by
  refine ⟨fun code s hr hs hd => ⟨fun hcode => ?_, ?_⟩, fun c s hc hr hs => exec_straddling hc hr hs,
    fun c bytes hc => ⟨fun part hpart => ?_, fun n hn => ?_⟩, fun s selHigh requestBytes n k hk => ⟨fun h => ?_, ?_⟩⟩
  · have hname : codeNamesRequest code = false := by
      simp only [codeNamesRequest, Bool.and_eq_false_iff, decide_eq_false_iff_not]
      omega
    refine congrArg Host.Outcome.next ?_
    rw [badRequest, if_neg (by simp [hname]), transaction_awake hr hs hd]
    rfl
  · exact congrArg Host.Outcome.next (transaction_awake hr hs hd _)
  · have h := bytesOfBits_spelled bytes part
    rw [bytesOfBits_short hpart, List.append_nil] at h
    exact (congrArg requestOfBytes h).trans (requestOfBytes_eq hc)
  · have hlen : n < 8 * bytes.length := (spelled_length bytes).symm ▸ hn
    exact (congrArg requestOfBytes (bytesOfBits_take bytes n)).trans (requestOfBytes_cut hc (by omega))
  · rcases h with h | h <;> simp [State.sdo, h]
  · rintro rfl hr
    refine ⟨fun h => ?_, fun b hb => ?_, fun h => ?_⟩
    · rw [sdo_driven hr hk, sdoByte_request h]
      simp
    · rw [sdo_driven hr hk, sdoByte_reply]
      simp [hb]
    · rw [sdo_driven hr hk, sdoByte_reply, List.getD_eq_default _ _ h]
      simp

/-! ### The wake behind a transaction in DORMANT -/

/-- A wake of a station that holds nothing, in R124's wake column (R20, R134, R135, R145). -/
theorem wakeStation_eq {s : State} (h : s.holding = 0) :
    wakeStation s = { s with
      mode := .start, faultCause := .none, voidRun := 0, replicas := [], target := (wakeStation s).target
      suppression := none, outbox := s.outbox.clear, censusRetry := none, synchronised := false
      joinCondition := false, highTime := 0, wakeArmed := false, renewTimer := .stopped, windowCap := none
      muteWait := none, level := 0, rampTarget := 0, settle := 8, overdrawRun := 0, underRun := 0, under := false
      ownAge := 0, droopHold := false, recovery := none, supplyLow := false } :=
  enterStart_eq (s := { s with droopHold := false, recovery := none, supplyLow := false, ownAge := 0 }) h

@[simp] theorem wakeStation_target (s : State) : (wakeStation s).target = (wakeStation s).fairTarget :=
  enterStart_target _

/-- A woken station advertises what it requests (R26). -/
theorem wakeStation_advertised {s : State} (h : s.holding = 0) : (wakeStation s).advertised = s.requested := by
  rw [advertised_of_advertises, wakeStation_requested]
  · rw [wakeStation_eq h]; rfl
  · rw [wakeStation_eq h]

/-- `u` differs from `s` at most in what a request in DORMANT writes before the wake (R162, R166, R171, R172). -/
def requestOnly (s u : State) : Prop :=
  u = { s with reply := u.reply, mask := u.mask, latch := u.latch, requested := u.requested, suppression := u.suppression }

/-- The wake behind a request's effect `u` (R135). -/
theorem wakeStation_requestOnly {s u : State} (hu : requestOnly s u) (hh : s.holding = 0) :
    wakeStation u = { s with
      reply := (wakeStation u).reply, mask := (wakeStation u).mask, latch := (wakeStation u).latch
      requested := (wakeStation u).requested
      mode := .start, faultCause := .none, voidRun := 0, replicas := [], target := (wakeStation u).target
      suppression := none
      outbox := s.outbox.clear, censusRetry := none, synchronised := false, joinCondition := false, highTime := 0
      wakeArmed := false, renewTimer := .stopped, windowCap := none, muteWait := none
      level := 0, rampTarget := 0, settle := 8, overdrawRun := 0, underRun := 0, under := false
      ownAge := 0, droopHold := false, recovery := none, supplyLow := false } := by
  have hu0 : u.holding = 0 := by rw [hu]; exact hh
  obtain ⟨reply, mask, latch, requested, suppression, rfl⟩ : ∃ reply mask latch requested suppression,
      u = { s with reply := reply, mask := mask, latch := latch, requested := requested, suppression := suppression } :=
    ⟨_, _, _, _, _, hu⟩
  rw [wakeStation_eq hu0]

section
variable {s : State}

/-- What is told of the state behind a request in DORMANT: the values of R124's wake column, and four fields as the
effect `u` of the request leaves them. -/
def dormantWake (s u t : State) : Prop :=
  t.target = t.fairTarget ∧ t.advertised = t.requested ∧
    t = { s with
      reply := t.reply, mask := t.mask, latch := t.latch, requested := t.requested
      mode := .start, faultCause := .none, voidRun := 0, replicas := [], target := t.target, suppression := none
      outbox := s.outbox.clear, censusRetry := none, synchronised := false, joinCondition := false, highTime := 0
      wakeArmed := false, renewTimer := .stopped, windowCap := none, muteWait := none
      level := 0, rampTarget := 0, settle := 8, overdrawRun := 0, underRun := 0, under := false
      ownAge := 0, droopHold := false, recovery := none, supplyLow := false } ∧
    t.requested = u.requested ∧ t.reply = u.reply ∧ t.latch = u.latch ∧ t.mask = u.mask

/-- A transaction in DORMANT has its effect and then wakes the station (R135). -/
theorem transaction_dormant (hr : s.resetHeld = false) (hs : s.straddling = false) (hm : s.mode = .dormant)
    (hh : s.holding = 0) {effect : State → State} (hu : requestOnly s (effect s)) :
    ∃ t, (.next (transaction effect s) : Host.Outcome State Fault Refusal) = .next t ∧ dormantWake s (effect s) t := by
  have hu0 : (effect s).holding = 0 := by rw [hu]; exact hh
  refine ⟨wakeStation (effect s), by simp [transaction, hr, hs, hm], wakeStation_target _, ?_,
    wakeStation_requestOnly hu hh, by simp, by simp, wakeStation_latch hu0, by simp⟩
  rw [wakeStation_advertised hu0, wakeStation_requested]

theorem demandRequest_dormant (hm : s.mode = .dormant) (d : Byte) :
    demandRequest d s = { s with
      reply := [if s.ceiling < d.toNat then 2 else 1], requested := min d.toNat s.ceiling
      suppression := (demandRequest d s).suppression } := by
  have hreply : PortStatus.byte (if s.ceiling < d.toNat then .clipped else .ok) = if s.ceiling < d.toNat then 2 else 1 := by
    split <;> rfl
  rw [demandRequest, if_neg (by simp [hm])]
  by_cases h : min d.toNat s.ceiling = s.requested
  · rw [setRequested_same h, h, answer, hreply]
  · rw [setRequested_silent h (.inl (by rw [hm]; rfl)), answer, hreply]

end

/-- Settles O21: each request by its effect in DORMANT, and the wake behind it. -/
theorem dormantTransactionsWake : Obligations.DormantTransactionsWake := by
  intro c s hr hs hm hh hc
  have wake : ∀ (effect : State → State) (u : State), effect s = u → requestOnly s u →
      ∃ t, (.next (transaction effect s) : Host.Outcome State Fault Refusal) = .next t ∧ dormantWake s u t := by
    rintro effect u rfl hu
    exact transaction_dormant hr hs hm hh hu
  suffices h : ∃ u t, exec c s = .next t ∧ dormantWake s u t ∧
      (∀ d, c = .demand d → u.requested = min d.toNat s.ceiling ∧ u.reply = [if s.ceiling < d.toNat then 2 else 1]) ∧
      ((∀ d, c ≠ .demand d) → u.requested = s.requested) ∧
      (c ≠ .take → u.latch = s.latch) ∧ ((∀ h l, c ≠ .mask h l) → u.mask = s.mask) ∧
      (c = .clear ∨ c = .sleep ∨ c = .relearn ∨ (∃ b1 b2 b3 b4 b5, c = .program b1 b2 b3 b4 b5) → u.reply = [3]) ∧
      (c = .status → u.reply = 1 :: s.statusData) ∧ (c = .selectRisesEarly → u.reply = []) ∧
      (∀ b, c = .badRequest b → u.reply = [4]) by
    obtain ⟨u, t, he, ⟨ht, ha, hw, hreq, hrep, hlatch, hmask⟩, hrest⟩ := h
    rw [← hreq, ← hrep, ← hlatch, ← hmask] at hrest
    exact ⟨t, he, ht, ha, hw, hrest⟩
  cases c
  case status =>
    obtain ⟨t, he, hw⟩ := wake _ (answer .ok s.statusData s) rfl rfl
    exact ⟨_, t, he, hw, by simp [PortStatus.byte]⟩
  case entry a =>
    obtain ⟨t, he, hw⟩ := wake (entryRequest a) { s with reply := (entryRequest a s).reply }
      (by unfold entryRequest; split <;> rfl) rfl
    exact ⟨_, t, he, hw, by simp⟩
  case options =>
    obtain ⟨t, he, hw⟩ := wake _ (answer .ok s.optionsData s) rfl rfl
    exact ⟨_, t, he, hw, by simp⟩
  case demand d =>
    obtain ⟨t, he, hw⟩ := wake _ _ (demandRequest_dormant hm d) rfl
    exact ⟨_, t, he, hw, by simp⟩
  case clear =>
    obtain ⟨t, he, hw⟩ := wake clearRequest (answer .refused [] s) (if_neg (by simp [hm])) rfl
    exact ⟨_, t, he, hw, by simp [PortStatus.byte]⟩
  case sleep =>
    obtain ⟨t, he, hw⟩ := wake sleepRequest (answer .refused [] s) (if_neg (by simp [State.maySleep, hm])) rfl
    exact ⟨_, t, he, hw, by simp [PortStatus.byte]⟩
  case relearn =>
    obtain ⟨t, he, hw⟩ := wake relearnRequest (answer .refused [] s) (if_neg (by simp [hm])) rfl
    exact ⟨_, t, he, hw, by simp [PortStatus.byte]⟩
  case program b1 b2 b3 b4 b5 =>
    obtain ⟨t, he, hw⟩ := wake (programRequest ⟨b1, b2, b3, b4, b5⟩) (answer .refused [] s)
      (if_neg (by simp [State.mayProgram, hm])) rfl
    exact ⟨_, t, he, hw, by simp [PortStatus.byte]⟩
  case take =>
    obtain ⟨t, he, hw⟩ := wake takeRequest { s with reply := (takeRequest s).reply, latch := (takeRequest s).latch }
      (by unfold takeRequest; split <;> rfl) rfl
    exact ⟨_, t, he, hw, by simp⟩
  case mask high low =>
    obtain ⟨t, he, hw⟩ := wake (fun s => answer .ok [] { s with mask := maskWord high low }) _ rfl rfl
    exact ⟨_, t, he, hw, by simp⟩
  case badRequest code =>
    obtain ⟨t, he, hw⟩ := wake _ (answer .badRequest [] s) rfl rfl
    have hname : ¬ codeNamesRequest code = true := fun h => by simp [bytesOfRequest, h] at hc
    exact ⟨_, t, (congrArg Host.Outcome.next (if_neg hname)).trans he, hw, by simp [PortStatus.byte]⟩
  case selectRisesEarly =>
    obtain ⟨t, he, hw⟩ := wake (fun s => { s with reply := [] }) _ rfl rfl
    exact ⟨_, t, he, hw, by simp⟩
  all_goals exact absurd hc (by simp [bytesOfRequest])

end Sys2Proof.Machine
end

section
/-! The share line between frames (04 sections 4.1 to 4.5, 07 sections 7.4 and 7.7): the glitch filter and the pulse classes,
the counts of high line, the wake detector, and the breaks, the station's own and those it hears. -/

namespace Sys2Proof.Machine

/-! ### The glitch filter and the pulse classes (R64, R65) -/

theorem classify_eq_none_iff {w : Nat} : classify w = none ↔ w < 5 := by
  unfold classify Config.filterWidth
  split_ifs <;> simp <;> omega

theorem classify_eq_break_iff {w : Nat} : classify w = some .breakLow ↔ 60 ≤ w := by
  unfold classify Config.filterWidth Config.longWidth Config.errorWidth Config.breakWidth
  split_ifs <;> simp <;> omega

/-- A low that passes the filter has a class (R65). -/
theorem classify_some {w : Nat} (h : 5 ≤ w) : ∃ c, classify w = some c := by
  cases hc : classify w with
  | none => exact absurd (classify_eq_none_iff.1 hc) (by omega)
  | some c => exact ⟨c, rfl⟩

theorem filterFrom_wide {l : Low} (h : 5 ≤ l.width) (ls : List Low) : filterFrom none (l :: ls) = filterFrom (some l) ls :=
  if_neg (Nat.not_lt.2 h)

/-- Lows that the filter passes, each a wide high behind the one before it, go through as they are (R64). -/
theorem filterFrom_separated {out : Low} {lows : List Low} (hw : ∀ x ∈ lows, 5 ≤ x.width)
    (hp : (out :: lows).Pairwise fun x y => x.start + x.width + 5 ≤ y.start) :
    filterFrom (some out) lows = out :: lows := by
  induction lows generalizing out with
  | nil => rfl
  | cons l ls ih =>
    obtain ⟨hout, hls⟩ := List.pairwise_cons.1 hp
    have hgap : ¬ l.start < out.start + out.width + Config.filterWidth := Nat.not_lt.2 (hout l (by simp))
    have hwidth : ¬ l.width < Config.filterWidth := Nat.not_lt.2 (hw l (by simp))
    rw [filterFrom, if_neg hgap, if_neg hwidth, ih (fun x hx => hw x (by simp [hx])) hls]

theorem filterLows_separated {lows : List Low} (hw : ∀ x ∈ lows, 5 ≤ x.width)
    (hp : lows.Pairwise fun x y => x.start + x.width + 5 ≤ y.start) : filterLows lows = lows := by
  cases lows with
  | nil => rfl
  | cons l ls =>
    rw [filterLows, filterFrom_wide (hw l (by simp))]
    exact filterFrom_separated (fun x hx => hw x (by simp [hx])) hp

/-- A low with a wide enough beginning, and one behind a narrow high, go through as one (R64). -/
theorem filterLows_bridged {l m : Low} (hw : 5 ≤ l.width) (hlm : l.start + l.width ≤ m.start)
    (hgap : m.start < l.start + l.width + 5) (lows : List Low) :
    filterLows (l :: m :: lows) = filterLows (⟨l.start, m.start + m.width - l.start⟩ :: lows) := by
  have hmax : max l.width (m.start + m.width - l.start) = m.start + m.width - l.start := by omega
  have hwide : 5 ≤ (⟨l.start, m.start + m.width - l.start⟩ : Low).width := by show 5 ≤ m.start + m.width - l.start; omega
  have hnear : m.start < l.start + l.width + Config.filterWidth := hgap
  rw [filterLows, filterFrom_wide hw, filterFrom, if_pos hnear, hmax, filterLows, filterFrom_wide hwide]

section
variable {s : State}

/-! ### The counts of high line (R73, log 6) -/

/-- The count that `high` more of high line brings: inside a followed frame its own lows tell it (log 6). -/
def State.highCount (s : State) (high : Nat) : Nat := if s.frame = none then s.highTime + high else s.highTime

theorem addHigh_of_high (hl : s.lineLow = none) (ho : s.opening = none) (high : Nat) :
    addHigh high s = { s with highTime := s.highCount high } := by
  unfold addHigh State.lineHigh State.highCount
  by_cases hf : s.frame = none
  · simp [hl, ho, hf]
  · rw [if_neg (by simp [hf]), if_neg hf]

theorem lineHigh_eq_false (h : s.lineLow.isSome = true ∨ s.opening.isSome = true) : s.lineHigh = false := by
  unfold State.lineHigh
  rw [← Option.not_isSome, ← Option.not_isSome]
  rcases h with h | h <;> simp [h]

/-- While a low or a break is on the line nothing is counted (R73). -/
theorem addHigh_of_low (h : s.lineLow.isSome = true ∨ s.opening.isSome = true) (high : Nat) : addHigh high s = s :=
  if_neg (by simp [lineHigh_eq_false h])

theorem lineOn_of_mode {m : Mode} (hr : s.resetHeld = false) (hm : s.mode = m) (hrun : m.running = true) :
    s.lineOn = true := lineOn_iff.2 ⟨hr, hm ▸ hrun⟩

/-- Where the line interface runs no wake detector does (R134). -/
theorem busWake_of_lineOn (h : s.lineOn = true) : busWake s = s := by
  refine busWake_unarmed (.inl ?_)
  obtain ⟨-, hrun⟩ := lineOn_iff.1 h
  rw [← Bool.not_eq_true, wakeDetectorOn_iff]
  rintro ⟨-, hm, -⟩
  rw [hm] at hrun
  cases hrun

theorem lineOn_of_dormant (h : s.mode = .dormant) : s.lineOn = false := by
  rw [← Bool.not_eq_true, lineOn_iff, h]
  simp [Mode.running]

/-! ### JOIN_QUIET -/

/-- Settles O23: the count met, not yet met, and standing still. -/
theorem joinQuietQueuesCensus : Obligations.JoinQuietQueuesCensus := by
  intro high s hr hm count
  have hon := lineOn_of_mode hr hm rfl
  have hcount : (s.highCount high) = count := rfl
  have hexec : exec (.joinQuiet high) s = .next (joinQuiet high s) := rfl
  rw [hexec, joinQuiet, if_pos hon]
  refine ⟨fun hl ho hj hq => ?_, fun hl ho hq => ?_, fun h => ?_⟩
  · rw [addHigh_of_high hl ho, if_pos, queueIntent_census, hcount]
    simp only [hm, hj, State.lineHigh, hl, ho, hcount]
    exact decide_eq_true hq
  · rw [addHigh_of_high hl ho, if_neg, hcount]
    rcases hq with hj | hq
    · simp [hj]
    · have hshort : ¬ Config.joinQuiet ≤ count := Nat.not_le.2 hq
      simp [hcount, hshort]
  · rw [addHigh_of_low h, if_neg (by simp [lineHigh_eq_false h])]

/-! ### Lows outside frames -/

theorem breakSeen_of_lineOn (h : s.lineOn = true) {low : Nat} {c : PulseClass} (hc : classify low = some c) :
    breakSeen low s = if c = .breakLow then breakRecognised s else fallingEdge s := by
  unfold breakSeen
  rw [hc]
  simp only []
  rw [busWake_of_lineOn h, lowGoesOn, if_pos h]

theorem strayLow_of_lineOn (h : s.lineOn = true) {low : Nat} {c : PulseClass} (hc : classify low = some c) :
    strayLow low s = if s.followed.isNone && (decide (c ≠ .breakLow) || decide (s.lineLow = some .unseen)) then
      { s with highTime := 0, lineLow := none } else s := by
  unfold strayLow
  rw [hc]
  simp only []
  rw [busWake_of_lineOn h, lowEnds, if_pos h]

theorem followed_isSome_iff : s.followed.isSome = true ↔ s.opening.isSome = true ∨ s.frame.isSome = true := by
  unfold State.followed
  cases s.opening <;> simp

/-- Settles O24: the classes and the filter, and each report of a low outside frames. -/
theorem lowsAreClassedByWidth : Obligations.LowsAreClassedByWidth := by
  refine ⟨fun w => ?_, fun l m lows => ⟨fun h => ?_, fun hw hlm hgap => filterLows_bridged hw hlm hgap lows,
    filterLows_separated⟩, fun w s hon => ⟨fun hw => ?_, fun ho hf hw hlow => ?_, fun h => ?_, fun hl hw hlt => ?_,
      fun hl => ?_⟩⟩
  · unfold classify Config.filterWidth Config.longWidth Config.errorWidth Config.breakWidth
    split_ifs <;> simp <;> omega
  · exact if_pos h
  · have hc := classify_eq_none_iff.2 hw
    constructor <;> refine congrArg Host.Outcome.next ?_
    · rw [strayLow, hc]
    · rw [breakSeen, hc]
  · obtain ⟨c, hc⟩ := classify_some hw
    refine congrArg Host.Outcome.next ((strayLow_of_lineOn hon hc).trans (if_pos ?_))
    have hclass : c = .breakLow → 60 ≤ w := fun h => classify_eq_break_iff.1 (h ▸ hc)
    have hfollowed : s.followed.isNone = true := by simp [State.followed, ho, hf]
    simp only [hfollowed, Bool.true_and, Bool.or_eq_true, decide_eq_true_eq]
    rcases hlow with h | h
    · exact .inl fun e => absurd (hclass e) (by omega)
    · exact .inr h
  · refine congrArg Host.Outcome.next ?_
    cases hc : classify w with
    | none => rw [strayLow, hc]
    | some c =>
      refine (strayLow_of_lineOn hon hc).trans (if_neg ?_)
      have hfollowed : s.followed.isNone = false := by
        rw [← Option.not_isSome, followed_isSome_iff.2 h, Bool.not_true]
      simp [hfollowed]
  · obtain ⟨c, hc⟩ := classify_some hw
    have hclass : c ≠ .breakLow := fun h => absurd (classify_eq_break_iff.1 (h ▸ hc)) (by omega)
    refine congrArg Host.Outcome.next ?_
    rw [breakSeen_of_lineOn hon hc, if_neg hclass, fallingEdge, if_neg (by simp [hl])]
  · refine congrArg Host.Outcome.next ?_
    cases hc : classify w with
    | none => rw [breakSeen, hc]
    | some c =>
      have hbreak : breakRecognised s = s := if_pos (.inl hl)
      have hedge : fallingEdge s = s := if_pos (by simp [hl])
      rw [breakSeen_of_lineOn hon hc, hbreak, hedge, ite_self]

/-! ### The wake detector -/

theorem busWake_armed (hw : s.wakeDetectorOn = true) (ha : s.wakeArmed = true) :
    busWake s = { wakeStation s with lineLow := some (.seen false) } := if_pos (by simp [hw, ha])

/-- In DORMANT no low is classified (R134). -/
theorem breakSeen_unarmed (hr : s.resetHeld = false) (hm : s.mode = .dormant) (hw : busWake s = s) {low : Nat}
    (h : 5 ≤ low) : breakSeen low s = { s with lineLow := some .unseen, highTime := 0 } := by
  obtain ⟨c, hc⟩ := classify_some h
  unfold breakSeen
  rw [hc]
  simp only []
  rw [hw, lowGoesOn, if_neg (by simp [lineOn_of_dormant hm]), if_pos (by simp [hr, hm])]

theorem strayLow_unarmed (hr : s.resetHeld = false) (hm : s.mode = .dormant) (hw : busWake s = s) {low : Nat}
    (h : 5 ≤ low) : strayLow low s = { s with highTime := 0, lineLow := none } := by
  obtain ⟨c, hc⟩ := classify_some h
  unfold strayLow
  rw [hc]
  simp only []
  rw [hw, lowEnds, if_neg (by simp [lineOn_of_dormant hm]), if_pos (by simp [hr, hm])]

/-- A low short of a break, told of while it stands, wakes as its falling edge does (log 11). -/
theorem breakSeen_armed (hr : s.resetHeld = false) (hw : s.wakeDetectorOn = true) (ha : s.wakeArmed = true) {low : Nat}
    (h : 5 ≤ low) (hlt : low < 60) : breakSeen low s = busWake s := by
  obtain ⟨c, hc⟩ := classify_some h
  have hclass : c ≠ .breakLow := fun h => absurd (classify_eq_break_iff.1 (h ▸ hc)) (by omega)
  have hon : (busWake s).lineOn = true := by
    rw [busWake_armed hw ha, lineOn_iff]
    exact ⟨(wakeStation_resetHeld s).trans hr, by simp⟩
  unfold breakSeen
  rw [hc]
  simp only []
  rw [lowGoesOn, if_pos hon, if_neg hclass, fallingEdge, if_pos]
  rw [busWake_armed hw ha]
  rfl

end

/-- Settles O22: the quiet counted, the edge unarmed, and the wake armed. -/
theorem busWakeNeedsArmedDetector : Obligations.BusWakeNeedsArmedDetector := by
  intro s hr hm
  have hdetector : s.record.busWake = true → s.wakeDetectorOn = true := fun h => wakeDetectorOn_iff.2 ⟨hr, hm, h⟩
  have hunarmed : s.record.busWake = false ∨ s.wakeArmed = false → busWake s = s := by
    intro h
    refine busWake_unarmed (h.imp_left fun h => ?_)
    rw [← Bool.not_eq_true, wakeDetectorOn_iff, h]
    simp
  refine ⟨fun high hw hl ho hf => ?_, fun h low hlow => ⟨?_, ?_⟩, fun hw ha hh => ?_, fun hw ha low h5 h60 => ?_,
    fun h => congrArg Host.Outcome.next (hunarmed h)⟩
  · refine congrArg Host.Outcome.next ?_
    rw [armWakeDetector, if_pos (hdetector hw), addHigh_of_high hl ho, State.highCount, if_pos hf]
    rfl
  · exact congrArg Host.Outcome.next (breakSeen_unarmed hr hm (hunarmed h) hlow)
  · exact congrArg Host.Outcome.next (strayLow_unarmed hr hm (hunarmed h) hlow)
  · refine ⟨_, congrArg Host.Outcome.next (busWake_armed (hdetector hw) ha), wakeStation_target s,
      wakeStation_advertised hh, ?_⟩
    rw [wakeStation_eq hh]
  · exact congrArg Host.Outcome.next (breakSeen_armed hr (hdetector hw) ha h5 h60)

end Sys2Proof.Machine
end

section
/-! The breaks on the share line (04 sections 4.2 to 4.6, 05 section 5.3, 02 section 2.6): the wait and the intent that
a break begins for, the CLAIM's amount and its withdrawal, a break heard, and the limit on the own one. -/

namespace Sys2Proof.Machine

section
variable {s : State}

/-! ### The offer and the launch (R87, R88) -/

theorem Outbox.offer_of_highest {o : Outbox} {k : Kind} (hk : (o.get k).isSome = true)
    (hfirst : ∀ j : Kind, (o.get j).isSome = true → k.rank ≤ j.rank) : o.offer = some k := by
  have habove : ∀ j : Kind, j.rank < k.rank → (o.get j).isSome = false := by
    intro j hj
    rw [← Bool.not_eq_true]
    exact fun h => absurd (hfirst j h) (by omega)
  have hy := habove .yield
  have hr := habove .renew
  have hc := habove .claim
  unfold Outbox.offer
  cases k <;> simp_all [Outbox.get, Kind.rank]

theorem Outbox.offer_eq_none {o : Outbox} (h : o.waiting = false) : o.offer = none := by
  simp only [Outbox.waiting, Bool.or_eq_false_iff] at h
  simp [Outbox.offer, h]

/-- The outbox at a break start: `i` in flight, a RENEW left behind covered, the backoff flag cleared (R88). -/
theorem Outbox.launch_eq {o : Outbox} {k : Kind} {i : Intent} (h : o.get k = some i) :
    o.launch k = { o.put k none with
      inFlight := some ⟨k, i, false⟩, backoff := false
      renew := if k = .renew then none else o.renew.map fun r => { r with covered := true } } := by
  unfold Outbox.launch
  rw [h]
  cases k <;> simp [Outbox.put]

/-! ### The wait (R73) -/

theorem waitPassed_iff (hl : s.lineLow = none) (ho : s.opening = none) :
    s.waitPassed = true ↔ (s.frame = none ∨ s.synchronised = false) ∧ s.contentionWait ≤ s.highTime := by
  simp [State.waitPassed, State.lineHigh, hl, ho]

theorem waitPassed_eq_false (h : s.lineLow.isSome = true ∨ s.opening.isSome = true) : s.waitPassed = false := by
  simp [State.waitPassed, lineHigh_eq_false h]

/-- BREAK_START at a station that may send (R69, R73). -/
theorem exec_breakStart (hon : s.lineOn = true) (hm : s.mode ≠ .mute) (hs : s.sending = false) (high : Nat) :
    exec (.breakStart high) s =
      .next (if (addHigh high s).waitPassed then serveOutbox (addHigh high s) else addHigh high s) := by
  refine congrArg Host.Outcome.next (if_pos ?_)
  simp [State.maySend, hon, hm, hs]

/-- The wait has passed: the outbox is served (R74). -/
theorem exec_breakStart_served (hon : s.lineOn = true) (hm : s.mode ≠ .mute) (hs : s.sending = false)
    (hl : s.lineLow = none) (ho : s.opening = none) (hf : s.frame = none ∨ s.synchronised = false) {high : Nat}
    (hw : s.contentionWait ≤ s.highCount high) :
    exec (.breakStart high) s = .next (serveOutbox { s with highTime := s.highCount high }) := by
  rw [exec_breakStart hon hm hs, addHigh_of_high hl ho, if_pos]
  exact (waitPassed_iff (s := { s with highTime := s.highCount high }) hl ho).2 ⟨hf, hw⟩

theorem beginBreak_eq (k : Kind) (n : Nat) :
    beginBreak k { s with highTime := n } = { s with
      outbox := s.outbox.launch k, frame := none, highTime := 0, lineLow := some (.seen s.mode.listening)
      opening := some ⟨.sender, some (sealFrame (s.ownFields k)), 0⟩ } := rfl

/-- A contender drives its break from its start (R66, R76). -/
theorem beginBreak_drives (hon : s.lineOn = true) (k : Kind) :
    (beginBreak k s).shareDriven = true ∧ (beginBreak k s).transmitter = .breaking := by
  have hon' : (beginBreak k s).lineOn = true := hon
  constructor
  · rw [State.shareDriven, hon']
    rfl
  · rfl

end

/-- Settles O25: the intent of the highest rank is offered, or the wait has not passed. -/
theorem breakStartServesHighestRank : Obligations.BreakStartServesHighestRank := by
  intro high s hon hm hs wait count
  have hwait : s.contentionWait = wait := rfl
  have hcount : s.highCount high = count := rfl
  refine ⟨fun k i hl ho hf hk hi hfirst hw => ?_, fun hl ho h => ?_, fun h => ?_⟩
  · have hoffer := Outbox.offer_of_highest (o := s.outbox) (by rw [hi]; rfl) hfirst
    have hserve : serveOutbox { s with highTime := count } = beginBreak k { s with highTime := count } := by
      unfold serveOutbox
      cases k <;> simp_all
    have hfields : s.ownFields k = ⟨k, s.address, s.holding, s.advertised⟩ := by simp [State.ownFields, hk]
    obtain ⟨hdriven, hbreaking⟩ := beginBreak_drives (s := { s with highTime := count }) hon k
    have hlaunch : (beginBreak k { s with highTime := count }).outbox = _ := Outbox.launch_eq hi
    refine ⟨beginBreak k { s with highTime := count }, ?_, ?_, ?_, ?_, ?_, fun j hj hr => ?_, fun hr => ?_, hdriven,
      hbreaking⟩
    · exact (exec_breakStart_served hon hm hs hl ho hf hw).trans (congrArg Host.Outcome.next hserve)
    · rw [beginBreak_eq, hfields]
      rfl
    all_goals rw [hlaunch]
    · cases k <;> rfl
    · cases j <;> cases k <;> simp_all [Outbox.get, Outbox.put]
    · exact if_neg hr
  · rw [exec_breakStart hon hm hs, addHigh_of_high hl ho, hcount]
    split
    next hp =>
      obtain ⟨hf, hw⟩ := (waitPassed_iff (s := { s with highTime := count }) hl ho).1 hp
      have hempty : s.outbox.waiting = false := by
        rcases h with h | h | ⟨h, h'⟩
        · exact absurd hw (Nat.not_le.2 h)
        · exact h
        · exact absurd hf (by simp [Option.ne_none_iff_isSome.2 h, h'])
      have hserve : serveOutbox { s with highTime := count } = { s with highTime := count } := by
        unfold serveOutbox
        rw [show ({ s with highTime := count } : State).outbox.offer = none from Outbox.offer_eq_none hempty]
      exact congrArg Host.Outcome.next hserve
    · rfl
  · rw [exec_breakStart hon hm hs, addHigh_of_low h, if_neg (by simp [waitPassed_eq_false h])]

/-! ### A CLAIM at its break start (R35, R36) -/

section
variable {s : State} {i : Intent}

theorem offer_claim (hy : s.outbox.yield = none) (hr : s.outbox.renew = none) (hc : s.outbox.claim = some i) :
    s.outbox.offer = some .claim := by
  simp [Outbox.offer, hy, hr, hc]

theorem serveOutbox_claim (ho : s.outbox.offer = some .claim) (h : (s.holding : Int) < s.claimAmount) :
    serveOutbox s = beginBreak .claim s := by
  unfold serveOutbox
  rw [ho]
  exact if_pos h

/-- A CLAIM that would not raise the holding leaves the collection, and the engine asks again (R36). -/
theorem serveOutbox_withdrawn (ho : s.outbox.offer = some .claim) (h : s.claimAmount ≤ s.holding) :
    serveOutbox s = match (withdrawClaim s).outbox.offer with
      | none => withdrawClaim s
      | some k => beginBreak k (withdrawClaim s) := by
  unfold serveOutbox
  rw [ho]
  exact if_neg (Int.not_lt.2 h)

theorem withdrawClaim_silent (hc : s.outbox.claim = some i) (hn : i.notice = false) :
    withdrawClaim s = { s with outbox := { s.outbox with claim := none } } := by
  rw [withdrawClaim, if_neg (by simp [Outbox.claimNotice, hc, hn])]
  rfl

theorem withdrawClaim_noticed (hc : s.outbox.claim = some i) (hn : i.notice = true) (hr : s.outbox.renew = none) :
    withdrawClaim s = { s with outbox := { s.outbox with claim := none, renew := some ⟨0, false, false⟩ } } := by
  rw [withdrawClaim, if_pos (by simp [Outbox.claimNotice, hc, hn]), queueIntent_renew]
  simp [Outbox.put, hr, queuedInto]

/-- The claim amount and the holdings of all others fit the budget (R16, R35, R45). -/
theorem othersHolding_claimAmount (h : s.RosterInv) (hr : s.resetHeld = false) (hm : s.mode ≠ .unconfigured) :
    (s.othersHolding s.address : Int) + s.claimAmount ≤ s.budget := by
  obtain ⟨-, -, hothers⟩ := rosterAddsUp_of h hr hm
  have hown := hothers s.address
  rw [findEntry_roster_own hr hm] at hown
  have hsum : s.othersHolding s.address + s.holding = s.rosterSum := hown
  have hfree : s.free = (s.budget : Int) - s.rosterSum := rfl
  have hamount : s.claimAmount ≤ (s.holding : Int) + s.free := min_le_right _ _
  omega

end

/-- Settles O26: the CLAIM goes into flight with the claim amount, which `othersHolding_claimAmount` bounds. -/
theorem claimAmountFitsTheBudget : Obligations.ClaimAmountFitsTheBudget := by
  intro high i s hon hm hs hl ho hf hy hr hc hw hraises hinv
  obtain ⟨hreset, hrun⟩ := lineOn_iff.1 hon
  have hmode := Mode.ne_unconfigured_of_running hrun
  have hamount : s.claimAmount = min (s.target : Int) ((s.holding : Int) + ((s.budget : Int) - s.rosterSum)) := rfl
  rw [← hamount] at hraises ⊢
  have hpos : (s.claimAmount.toNat : Int) = s.claimAmount := Int.toNat_of_nonneg (by omega)
  have hfits := othersHolding_claimAmount hinv hreset hmode
  have hlaunch : (beginBreak .claim { s with highTime := s.highCount high }).outbox = _ :=
    Outbox.launch_eq (k := .claim) hc
  refine ⟨_, sealFrame (s.ownFields .claim), (exec_breakStart_served hon hm hs hl ho hf hw).trans (congrArg
    Host.Outcome.next (serveOutbox_claim (offer_claim hy hr hc) hraises)), rfl, ?_, ?_, ?_, rfl, rfl, rfl, rfl, hpos,
    ?_, ?_, rosterAddsUp_of hinv hreset hmode⟩
  · rw [hlaunch]
  · rw [hlaunch]
    rfl
  · rw [hlaunch]
  · show s.holding < s.claimAmount.toNat
    omega
  · show s.othersHolding s.address + s.claimAmount.toNat ≤ s.budget
    omega

/-- Settles O27: what `withdrawClaim` leaves, and the intent that is offered then. -/
theorem claimWithdrawnAtBreakStart : Obligations.ClaimWithdrawnAtBreakStart := by
  intro high i s hon hm hs hl ho hf hy hr hc count sent hw hamount
  have hserve : ∀ k : Option Kind, (withdrawClaim { s with highTime := count }).outbox.offer = k →
      exec (.breakStart high) s = .next (match k with
        | none => withdrawClaim { s with highTime := count }
        | some k => beginBreak k (withdrawClaim { s with highTime := count })) := by
    rintro k rfl
    exact (exec_breakStart_served hon hm hs hl ho hf hw).trans (congrArg Host.Outcome.next
      (serveOutbox_withdrawn (s := { s with highTime := count }) (offer_claim hy hr hc) hamount))
  have hsilent := withdrawClaim_silent (s := { s with highTime := count }) hc
  refine ⟨fun hn hcensus => ?_, fun hn c hcensus => ?_, fun hn => ?_⟩
  · refine (hserve none ?_).trans (congrArg Host.Outcome.next (hsilent hn))
    rw [hsilent hn]
    simp [Outbox.offer, hy, hr, hcensus]
  · refine ⟨_, hserve (some .census) ?_, ⟨sealFrame (s.ownFields .census), rfl, ?_⟩, ?_⟩
    · rw [hsilent hn]
      simp [Outbox.offer, hy, hr, hcensus]
    · simp only [hsilent hn]
      rfl
    · simp only [hsilent hn]
      refine (Outbox.launch_eq (o := { s.outbox with claim := none }) (k := .census) hcensus).trans ?_
      simp [Outbox.put, hr]
  · have hnoticed := withdrawClaim_noticed (s := { s with highTime := count }) hc hn hr
    refine ⟨_, hserve (some .renew) ?_, ⟨sealFrame (s.ownFields .renew), rfl, ?_⟩, ?_⟩
    · rw [hnoticed]
      simp [Outbox.offer, hy]
    · simp only [hnoticed]
      rfl
    · simp only [hnoticed]
      rw [beginBreak_outbox, Outbox.launch_eq (i := ⟨0, false, false⟩) rfl]
      simp [Outbox.put, hr]

/-! ### A break heard, and the limit on the own one (R65, R71, R75, R81) -/

section
variable {s : State}

theorem sawEdgeListening_eq (hl : s.lineLow ≠ some .unseen) :
    s.sawEdgeListening = match s.lineLow with
      | some (.seen receiver) => receiver && s.mode.listening
      | _ => s.mode.listening := by
  unfold State.sawEdgeListening
  cases h : s.lineLow with
  | none => rfl
  | some low => cases low with
    | unseen => exact absurd h hl
    | seen receiver => rfl

/-- A low of 6T that the filter saw begin, with no break on the line (R65, R71, R81). -/
theorem breakSeen_recognised (hon : s.lineOn = true) {low : Nat} (hlow : 60 ≤ low) (hl : s.lineLow ≠ some .unseen)
    (ho : s.opening = none) :
    breakSeen low s = followBreak (if s.sending then takeOutcome .voided s else s) := by
  rw [breakSeen_of_lineOn hon (classify_eq_break_iff.2 hlow), if_pos rfl, breakRecognised, if_neg (by simp [hl, ho])]

/-- What an outcome at the outbox leaves alone of the line (R89). -/
theorem followBreak_takeOutcome (out : FrameOutcome) (s : State) :
    followBreak (takeOutcome out s) = { takeOutcome out s with
      opening := some ⟨s.roleAtBreak, none, 0⟩, frame := none, highTime := 0
      lineLow := some (.seen s.sawEdgeListening) } := by
  unfold followBreak State.roleAtBreak State.sawEdgeListening
  simp only [takeOutcome_lineLow, takeOutcome_mode]

/-- The own frame ends as voided in a break, and the station follows that break (R75, R81, R92 to R94). -/
theorem followBreak_voided {f : Flight} (hf : s.outbox.inFlight = some f) (hc : f.cancelled = false) :
    let t := followBreak (takeOutcome .voided s)
    t = { s with
      outbox := t.outbox, latch := t.latch, suppression := t.suppression, censusRetry := t.censusRetry
      opening := some ⟨s.roleAtBreak, none, 0⟩, frame := none, highTime := 0
      lineLow := some (.seen s.sawEdgeListening) } ∧ countedFailure f s t := by
  intro t
  refine ⟨?_, countedFailure_congr (takeOutcome_countedFailure rfl hf hc) ⟨rfl, rfl, rfl⟩ ⟨rfl, rfl, rfl, rfl⟩⟩
  have ht : t = _ := followBreak_takeOutcome .voided s
  rw [ht]
  apply State.ext <;> simp

end

theorem Mode.listening_iff (m : Mode) :
    m.listening = true ↔ m = .start ∨ m = .learning ∨ m = .member ∨ m = .isolated := by
  cases m <;> simp [Mode.listening]

theorem Mode.running_iff (m : Mode) : m.running = true ↔ m.listening = true ∨ m = .fault ∨ m = .mute := by
  cases m <;> simp [Mode.listening, Mode.running]

/-- Settles O28: the break opens a frame, ends an own one as voided, or is the low that stands already. -/
theorem breakOpensAndCutsFrames : Obligations.BreakOpensAndCutsFrames := by
  refine ⟨fun s => ⟨s.mode.listening_iff, ?_⟩, fun low s hon hlow hl => ?_⟩
  · rw [lineOn_iff, Mode.running_iff]
  · intro listened role
    have hsaw : s.sawEdgeListening = listened := sawEdgeListening_eq hl
    have hrole : s.roleAtBreak = role := congrArg (fun b => if b = true then Role.receiver else .onlooker) hsaw
    refine ⟨fun ho hs => ?_, fun r f ho hf hr hfl => ?_, fun ho => ?_⟩
    · refine congrArg Host.Outcome.next ((breakSeen_recognised hon hlow hl ho).trans ?_)
      rw [if_neg (by simp [hs]), followBreak, hrole, hsaw]
    · have hsending : s.sending = true := by simp [State.sending, hf, hr]
      have hseen := breakSeen_recognised hon hlow hl ho
      rw [if_pos hsending] at hseen
      refine ⟨_, congrArg Host.Outcome.next hseen, ?_, fun hc => (followBreak_voided hfl hc).2, fun hc => ?_⟩
      · rw [followBreak_takeOutcome, hrole, hsaw]
        apply State.ext <;> simp
      · rw [followBreak_takeOutcome, takeOutcome_cancelled (by decide) hfl hc]
    · refine congrArg Host.Outcome.next ?_
      rw [breakSeen_of_lineOn hon (classify_eq_break_iff.2 hlow), if_pos rfl, breakRecognised, if_pos (.inr ho)]

section
variable {s : State} {o : Opening}

/-- The own break's time under BREAK_LIMIT (R75). -/
theorem exec_breakLimit (ho : s.opening = some o) (hr : o.role = .sender) (low : Nat) :
    exec (.breakLimit low) s = .next (if 160 ≤ max o.ownTime low then followBreak (takeOutcome .voided s)
      else { s with opening := some { o with ownTime := max o.ownTime low } }) := by
  refine congrArg Host.Outcome.next ?_
  unfold breakLimit
  rw [ho]
  exact if_pos hr

end

/-- Settles O29: the frame voided at 16T, the break on its way, and no break at all. -/
theorem breakLimitVoidsOwnFrame : Obligations.BreakLimitVoidsOwnFrame := by
  intro low s hon
  refine ⟨fun o f ho hr hf hc hlow => ?_, fun o ho hr hown hlow => ?_, fun ho => ?_⟩
  · have hexec := exec_breakLimit ho hr low
    rw [if_pos (le_max_of_le_right hlow)] at hexec
    exact ⟨_, hexec, followBreak_voided hf hc⟩
  · have hexec := exec_breakLimit ho hr low
    rw [if_neg (by omega)] at hexec
    refine ⟨_, hexec, rfl, by simp [State.transmitter, hr], fun hf => ?_⟩
    have hon' : ({ s with opening := some { o with ownTime := max o.ownTime low } } : State).lineOn = true := hon
    rw [State.shareDriven, hon']
    simp [hf, Opening.drives, hr, Config.breakLength]
  · refine congrArg Host.Outcome.next ?_
    rw [breakLimit, ho]

end Sys2Proof.Machine
end

section
/-! The lease clock (06 sections 6.1 to 6.4, 07 section 7.5, 01 section 1.6): one tick and the events it brings, the lapse
and the removal of an entry, and the close of the census window. -/

namespace Sys2Proof.Machine

/-! ### The events of a tick, in a free order (log 4) -/

theorem insertAt_perm (c : Instr) (n : Nat) (l : List Instr) : (insertAt c n l).Perm (c :: l) := by
  induction l generalizing n with
  | nil => cases n <;> exact .rfl
  | cons x xs ih =>
    cases n with
    | zero => exact .rfl
    | succ n => exact ((ih n).cons x).trans (.swap c x xs)

theorem arrange_perm (fresh : Nat) (l : List Instr) : (arrange fresh l).Perm l := by
  induction l with
  | nil => exact .rfl
  | cons c rest ih =>
    cases rest with
    | nil => exact .rfl
    | cons d rest => exact (insertAt_perm c _ _).trans (ih.cons c)

section
variable {s : State} {a : Address}

theorem lapseDue_iff : s.lapseDue a = true ↔
    s.lineOn = true ∧ ∃ e, findEntry a s.replicas = some e ∧ e.status = .live ∧ s.lease ≤ e.age := by
  unfold State.lapseDue
  cases findEntry a s.replicas <;> simp

theorem removalDue_iff : s.removalDue a = true ↔
    s.lineOn = true ∧ ∃ e, findEntry a s.replicas = some e ∧ e.status = .lapsed ∧ s.lease + s.lease / 2 ≤ e.age := by
  unfold State.removalDue
  cases findEntry a s.replicas
  · simp
  · simp only [Bool.and_eq_true, decide_eq_true_eq, Option.some.injEq, exists_eq_left']
    exact Iff.rfl

theorem ranFor_iff {timer : Option Nat} {n : Nat} : ranFor timer n = true ↔ ∃ m, timer = some m ∧ n ≤ m := by
  cases timer <;> simp [ranFor]

theorem renewDue_iff_running : s.renewDue = true ↔
    s.resetHeld = false ∧ ∃ n, s.renewTimer = .running n ∧ s.lease / 4 ≤ n := by
  cases h : s.renewTimer with
  | running n => rw [renewDue_iff h]; simp
  | stopped => simp [State.renewDue, h]
  | due => simp [State.renewDue, h]

theorem recoveryDue_iff : s.recoveryDue = true ↔
    s.resetHeld = false ∧ s.mode.running = true ∧ s.record.b4.getLsbD 6 = true ∧
      ∃ n, s.recovery = some n ∧ s.lease / 4 ≤ n := by
  unfold State.recoveryDue
  rw [Bool.and_eq_true, droopMonitorOn_iff, ranFor_iff, and_assoc, and_assoc]
  exact Iff.rfl

/-- An event of a lease tick for the entries that are due at their addresses. -/
theorem mem_dueEntries {due : Address → Bool} {event : Address → Instr} {c : Instr}
    (hdue : ∀ a, due a = true → ∃ e, findEntry a s.replicas = some e) :
    c ∈ (s.replicas.filter fun e => due e.address).map (fun e => event e.address) ↔
      ∃ a, c = event a ∧ due a = true := by
  simp only [List.mem_map, List.mem_filter]
  constructor
  · rintro ⟨e, ⟨-, hd⟩, rfl⟩
    exact ⟨_, rfl, hd⟩
  · rintro ⟨a, rfl, hd⟩
    obtain ⟨e, he⟩ := hdue a hd
    have ha := findEntry_address he
    exact ⟨e, ⟨findEntry_mem he, by rw [ha]; exact hd⟩, by rw [ha]⟩

theorem mem_ifDue {due : Prop} [Decidable due] {event c : Instr} :
    c ∈ (if due then [event] else []) ↔ c = event ∧ due := by
  by_cases h : due <;> simp [h]

/-- The events due, each with its condition (R102, R138). -/
theorem mem_dueEvents (hr : s.resetHeld = false) (c : Instr) : c ∈ s.dueEvents ↔
    (c = .rampStep ∧ s.level < s.rampTarget) ∨
    (∃ a e, c = .lapse a ∧ s.mode.running = true ∧ findEntry a s.replicas = some e ∧ e.status = .live ∧
      s.lease ≤ e.age) ∨
    (∃ a e, c = .removal a ∧ s.mode.running = true ∧ findEntry a s.replicas = some e ∧ e.status = .lapsed ∧
      s.lease + s.lease / 2 ≤ e.age) ∨
    (c = .selfLease ∧ s.mode = .member ∧ s.lease ≤ s.ownAge) ∨
    (c = .renewTimerExpiry ∧ ∃ n, s.renewTimer = .running n ∧ s.lease / 4 ≤ n) ∨
    (c = .suppressionTimerExpiry ∧ ∃ n, s.suppression = some n ∧ s.lease / 4 ≤ n) ∨
    (c = .censusRetryTimerExpiry ∧ ∃ n, s.censusRetry = some n ∧ s.lease ≤ n) ∨
    (c = .cap ∧ s.mode = .learning ∧ ∃ n, s.windowCap = some n ∧ s.lease / 4 ≤ n) ∨
    (c = .muteWaitExpiry ∧ s.mode = .mute ∧ ∃ n, s.muteWait = some n ∧ 2 * s.lease ≤ n) ∨
    (c = .recoveryTimerExpiry ∧ s.mode.running = true ∧ s.record.b4.getLsbD 6 = true ∧
      ∃ n, s.recovery = some n ∧ s.lease / 4 ≤ n) := by
  have hlapse := mem_dueEntries (s := s) (c := c) (event := .lapse) fun a h =>
    (lapseDue_iff.1 h).2.imp fun _ h => h.1
  have hremoval := mem_dueEntries (s := s) (c := c) (event := .removal) fun a h =>
    (removalDue_iff.1 h).2.imp fun _ h => h.1
  have hrenew : s.renewInterval = s.lease / 4 := rfl
  unfold State.dueEvents
  simp only [List.mem_append, hlapse, hremoval, mem_ifDue, or_assoc, lapseDue_iff, removalDue_iff, lineOn_iff, hr,
    State.rampDue, selfLeaseDue_iff, renewDue_iff_running, State.suppressionDue, State.censusRetryDue, State.capDue,
    State.muteWaitDue, recoveryDue_iff, ranFor_iff, Bool.and_eq_true, decide_eq_true_eq, Bool.not_false, true_and,
    exists_and_left, hrenew]

end

/-- Settles O2: the tick by its definition, the events by the due conditions. -/
theorem emptyQueueIsOneLeaseTick : Obligations.EmptyQueueIsOneLeaseTick := by
  intro s hp
  have hstep : step s = .next (leaseTick s) := by unfold step; rw [hp]
  refine ⟨fun hr => hstep.trans (congrArg Host.Outcome.next (if_pos hr)), fun hr => ?_⟩
  have htick : leaseTick s = { advanceCounts s with
      fresh := s.fresh + 1
      pending := arrange s.fresh ({ advanceCounts s with fresh := s.fresh + 1 } : State).dueEvents } := by
    rw [leaseTick, if_neg (by simp [hr]), hp]
    rfl
  have hpending : (leaseTick s).pending.Perm (leaseTick s).dueEvents := by
    rw [htick]
    exact arrange_perm _ _
  refine ⟨_, hstep, ?_, hpending, fun c => hpending.mem_iff.trans (mem_dueEvents ?_ c)⟩
  · rw [htick]
    rfl
  · rw [htick]
    exact hr

/-! ### Lapse and removal (R107, R108) -/

section
variable {s : State} {a : Address} {e : Entry}

/-- A pass after which no overcommit begins is a recompute (R17, R18). -/
theorem rosterPass_of_covered {was : Bool} (h : s.overcommitted = true → was = true) :
    rosterPass was s = recompute (liftSuppression s) := by
  have hover : ¬ (!was && (liftSuppression s).overcommitted) = true := by
    simp only [Bool.and_eq_true, Bool.not_eq_true', not_and, Bool.not_eq_true]
    intro hw
    rw [← Bool.not_eq_true]
    exact fun ho => by rw [h ho] at hw; cases hw
  rw [rosterPass, beginOvercommit, if_neg hover]

theorem rosterSum_eq (h : s.RosterInv) (hr : s.resetHeld = false) (hm : s.mode ≠ .unconfigured) :
    s.rosterSum = s.holding + sumHoldings s.replicas := (rosterAddsUp_of h hr hm).2.1

/-- An entry rewritten with its holding leaves the sum (R14, R16). -/
theorem sumHoldings_lapsed {l : List Entry} (hl : rising l = true) (he : findEntry a l = some e) :
    sumHoldings (putEntry { e with status := .lapsed } l) = sumHoldings l := by
  have ha := findEntry_address he
  rw [sumHoldings_putEntry hl, ← sumHoldings_dropEntry hl he, ← ha]

theorem rosterInv_lapsed (h : s.RosterInv) (he : findEntry a s.replicas = some e) :
    ({ s with replicas := putEntry { e with status := .lapsed } s.replicas } : State).RosterInv := by
  obtain ⟨hl, hown⟩ := h
  have hne : s.address ≠ e.address := by
    rintro hs
    rw [hs, findEntry_address he, he] at hown
    cases hown
  exact ⟨rising_putEntry hl, (findEntry_putEntry_of_ne (e := { e with status := .lapsed }) hne _).trans hown⟩

theorem rosterInv_removed (h : s.RosterInv) :
    ({ s with replicas := dropEntry a s.replicas } : State).RosterInv := by
  refine ⟨rising_dropEntry h.1, ?_⟩
  rw [findEntry_eq_none]
  intro x hx
  exact findEntry_eq_none.1 h.2 x (List.mem_filter.1 hx).1

end

/-- Settles O44: a lapse keeps the holding in the sum, a removal takes it out, and neither begins an overcommit. -/
theorem lapseKeepsAndRemovalFreesTheHolding : Obligations.LapseKeepsAndRemovalFreesTheHolding := by
  intro a e s hon hinv he lapsed removed
  obtain ⟨hr, hrun⟩ := lineOn_iff.1 hon
  have hm := Mode.ne_unconfigured_of_running hrun
  have hsum := rosterSum_eq hinv hr hm
  have hdrop := sumHoldings_dropEntry hinv.1 he
  have hlapsed : lapsed.rosterSum = s.rosterSum := by
    rw [rosterSum_eq (s := lapsed) (rosterInv_lapsed hinv he) hr hm, hsum]
    exact congrArg (s.holding + ·) (sumHoldings_lapsed hinv.1 he)
  have hremoved : removed.rosterSum + e.holding = s.rosterSum := by
    rw [rosterSum_eq (s := removed) (rosterInv_removed hinv) hr hm, hsum]
    show s.holding + sumHoldings (dropEntry a s.replicas) + e.holding = _
    omega
  have hdue : e.status = .live → (s.lapseDue a = true ↔ s.lease ≤ e.age) := fun h => by
    simp [lapseDue_iff, hon, he, h]
  have hdue' : e.status = .lapsed → (s.removalDue a = true ↔ s.lease + s.lease / 2 ≤ e.age) := fun h => by
    simp [removalDue_iff, hon, he, h]
  refine ⟨fun hs hage => ⟨congrArg Host.Outcome.next ?_, hlapsed, ?_⟩, fun hs hage => ?_,
    fun hs hage => ⟨congrArg Host.Outcome.next ?_, hremoved, findEntry_dropEntry_self a _⟩, fun hs hage => ?_⟩
  · rw [if_pos ((hdue hs).2 hage), lapseEntry, he]
    refine rosterPass_of_covered fun h => ?_
    exact decide_eq_true (hlapsed ▸ (of_decide_eq_true h : s.budget < lapsed.rosterSum))
  · have ha := findEntry_address he
    show findEntry a (putEntry { e with status := .lapsed } s.replicas) = _
    rw [← ha]
    exact findEntry_putEntry_self { e with status := .lapsed } _
  · refine congrArg Host.Outcome.next (if_neg ?_)
    rw [hdue hs]
    omega
  · rw [if_pos ((hdue' hs).2 hage), removeEntry]
    refine rosterPass_of_covered fun h => ?_
    have hover : s.budget < removed.rosterSum := of_decide_eq_true h
    exact decide_eq_true (show s.budget < s.rosterSum by omega)
  · refine congrArg Host.Outcome.next (if_neg ?_)
    rw [hdue' hs]
    omega

/-! ### The close of the census window (R129, R130) -/

/-- Settles O43: the quiet and the cap come to the same entry to MEMBER. -/
theorem windowCloseEntersMember : Obligations.WindowCloseEntersMember := by
  intro high n s hr hm hw renew
  have hon := lineOn_of_mode hr hm rfl
  have hrenew : renew = if s.renewTimer = .due ∧ (0 < s.holding ∨ 0 < s.advertised) then queuedInto s.outbox.renew
      else s.outbox.renew := rfl
  have henter : ∀ h : Nat, enterMember { s with highTime := h } = recompute { s with
      highTime := h, mode := .member, windowCap := none, censusRetry := none
      outbox := { s.outbox with renew := renew } } := by
    intro h
    have hadv : ({ s with highTime := h, mode := .member, windowCap := none, censusRetry := none } : State).advertised =
        s.advertised := by
      simp [State.advertised, hm, Mode.advertises]
    refine congrArg recompute ?_
    dsimp only
    split
    next hdue =>
      simp only [Bool.and_eq_true, decide_eq_true_eq, holdsOrWants_iff, hadv] at hdue
      rw [queueIntent_renew, hrenew, if_pos hdue]
    next hdue =>
      simp only [Bool.and_eq_true, decide_eq_true_eq, holdsOrWants_iff, hadv] at hdue
      rw [hrenew, if_neg hdue]
  have hopen : s.windowOpen = true := by simp [State.windowOpen, hr, hm, hw]
  have hcap : s.capDue = true ↔ s.lease / 4 ≤ n := by
    have hran : s.capDue = ranFor (some n) s.renewInterval := by simp [State.capDue, hr, hm, hw]
    rw [hran]
    exact ranFor_some
  have hexec : exec (.quietClose high) s = .next (quietClose high s) := rfl
  rw [hexec, quietClose, if_pos hon]
  dsimp only
  refine ⟨fun hl ho hf hq => ?_, fun hl ho hf hq => ?_, fun h => ?_, fun hn => ?_, fun hn => ?_⟩
  · have hcount : s.highCount high = s.highTime + high := if_pos hf
    rw [addHigh_of_high hl ho, hcount, if_pos, henter]
    simp only [hopen, State.lineHigh, hl, ho, hf]
    exact decide_eq_true hq
  · have hcount : s.highCount high = s.highTime + high := if_pos hf
    have hshort : ¬ Config.censusQuiet ≤ s.highTime + high := Nat.not_le.2 hq
    rw [addHigh_of_high hl ho, hcount, if_neg (by simp [hshort])]
  · have hstill : addHigh high s = s ∧ (s.lineHigh && s.frame.isNone) = false := by
      have hlow : (s.lineHigh && s.frame.isNone) = false := by
        rcases h with h | h | h
        · rw [lineHigh_eq_false (.inl h), Bool.false_and]
        · rw [lineHigh_eq_false (.inr h), Bool.false_and]
        · rw [← Option.not_isSome, h, Bool.not_true, Bool.and_false]
      exact ⟨if_neg (by simp [hlow]), hlow⟩
    rw [hstill.1, Bool.and_assoc s.windowOpen, hstill.2, Bool.and_false, Bool.false_and, if_neg Bool.false_ne_true]
  · exact congrArg Host.Outcome.next ((if_pos (hcap.2 hn)).trans (henter s.highTime))
  · exact congrArg Host.Outcome.next (if_neg (by rw [hcap]; omega))

end Sys2Proof.Machine
end

section
/-! The load side (08): the ramp, the samples judged against the level, and the droop monitor. -/

namespace Sys2Proof.Machine

/-! ### The ramp and DRIVE -/

/-- Settles O48: one unit below the ramp target, and the unit size by its two bits. -/
theorem rampStepRaisesByOneUnit : Obligations.RampStepRaisesByOneUnit := by
  intro s
  have hdue : s.resetHeld = false → (s.rampDue = true ↔ s.level < s.rampTarget) := fun hr => by
    simp [State.rampDue, hr]
  refine ⟨fun hr h => congrArg Host.Outcome.next (if_pos ((hdue hr).2 h)), fun hr h => ?_, fun hr hm => ?_, fun h => ?_⟩
  · refine congrArg Host.Outcome.next (if_neg ?_)
    rw [hdue hr]
    omega
  · have hdrive : s.driveMilliamps = s.level * s.record.unit := if_neg (by simp [hr, hm])
    rw [hdrive]
    exact congrArg (s.level * ·) (Record.unit_eq s.record)
  · refine if_pos ?_
    simpa using h

/-! ### A sample judged (R139 to R141) -/

section
variable {s : State} {sensed code v : Nat} {first between : Between}

theorem exec_sample : exec (.sample ⟨sensed, first⟩) s = .next (takeSample sensed first s) := rfl

theorem takeSample_off (h : s.lineOn = false) : takeSample sensed first s = s := by
  refine if_neg ?_
  rw [samplerOn_iff, ← lineOn_iff, h]
  exact Bool.false_ne_true

theorem takeSample_on (h : s.lineOn = true) : takeSample sensed first s = judgeSample sensed first s :=
  if_pos (samplerOn_iff.2 (lineOn_iff.1 h))

theorem sampleCode_eq (sensed : Nat) : sampleCode sensed = min 255 sensed := rfl

/-- A valid sample (R139). -/
theorem takeSample_valid (h : s.lineOn = true) (hs : s.settle = 0) :
    takeSample sensed first s = judgeOverdraw first (min 255 sensed) (judgeUnder (min 255 sensed) s) := by
  rw [takeSample_on h, judgeSample, if_neg (by omega), sampleCode_eq]

/-- A code of L − 2 or more ends the under run (R141). -/
theorem judgeUnder_above (h : s.level ≤ code + 2) : judgeUnder code s = { s with
    underRun := if s.level < 3 then s.underRun else 0, under := if s.level < 3 then s.under else false } := by
  unfold judgeUnder
  split
  · rfl
  · exact if_neg (by omega)

/-- A code below L − 2 raises the under run, and the sixteenth in a row sets UNDER (R141). -/
theorem judgeUnder_below (h3 : 3 ≤ s.level) (h : code + 2 < s.level) : judgeUnder code s =
    if decide (s.underRun < 16) && decide (min 16 (s.underRun + 1) = 16) && !s.under then
      latchEvent .under { s with underRun := min 16 (s.underRun + 1), under := true }
    else { s with underRun := min 16 (s.underRun + 1) } := by
  unfold judgeUnder
  rw [if_neg (by omega), if_pos (by omega)]
  rfl

theorem judgeOverdraw_below (h : code ≤ s.level + 1) : judgeOverdraw between code s = { s with overdrawRun := 0 } :=
  if_neg (by omega)

theorem judgeOverdraw_raised (h : s.level + 1 < code) (hrun : s.overdrawRun < 3) :
    judgeOverdraw between code s = { s with overdrawRun := s.overdrawRun + 1 } := by
  rw [judgeOverdraw, if_pos h]
  exact if_pos (show s.overdrawRun + 1 < 4 by omega)

/-- The fourth sample in a row is reported (R140, R150). -/
theorem judgeOverdraw_reported (h : s.level + 1 < code) (hrun : s.overdrawRun = 3) :
    judgeOverdraw between code s = enterFault .overdraw (takeBetween between { s with overdrawRun := 0 }) := by
  rw [judgeOverdraw, if_pos h]
  exact if_neg (show ¬ s.overdrawRun + 1 < 4 by omega)

/-! ### The report of an overdraw, and what is taken before it (R150, log 33) -/

theorem setHolding_overdrawRun (h : s.overdrawRun = 0) : (setHolding v s).overdrawRun = 0 := by
  unfold setHolding
  split
  · exact h
  · dsimp only
    split
    · rfl
    · exact h

/-- The station at the moment of a report: what the entry to FAULT rests on, and the run started again. -/
def reportable (s : State) : Prop := s.OutputInv ∧ s.RosterInv ∧ s.overdrawRun = 0

theorem isolating_overdrawRun (relearn : Bool) (h : s.overdrawRun = 0) : (isolating relearn s).overdrawRun = 0 := by
  have hset := setHolding_overdrawRun (v := 0) (s := { s with
    mode := .isolated, windowCap := none, muteWait := none, joinCondition := false }) h
  unfold isolating
  dsimp only
  split <;> simpa using hset

theorem faulting_overdrawRun (cause : FaultCause) (h : s.overdrawRun = 0) : (faulting cause s).overdrawRun = 0 := by
  have hset := setHolding_overdrawRun (v := 0) (s := demoteReceiver { s with
    mode := .fault, faultCause := cause, windowCap := none, muteWait := none, joinCondition := false }) h
  unfold faulting
  dsimp only
  split <;> simpa using hset

theorem reportable.enterIsolated (h : reportable s) (relearn : Bool) : reportable (enterIsolated relearn s) := by
  obtain ⟨ho, hr, hrun⟩ := h
  refine ⟨(enterIsolated_loadInv relearn ho).1, by simpa [State.RosterInv] using hr, ?_⟩
  · rw [enterIsolated_eq relearn hr]
    exact isolating_overdrawRun relearn hrun

theorem reportable_enterStart (s : State) : reportable (enterStart s) := by
  have hreplicas : (enterStart s).replicas = [] := by simp [enterStart]
  refine ⟨(enterStart_loadInv s).1, ?_, ?_⟩
  · rw [State.RosterInv, hreplicas]
    exact ⟨rfl, rfl⟩
  unfold enterStart
  rw [recompute_outside (by simp) (by simp)]
  rfl

theorem reportable.takeBetween (hon : s.lineOn = true) (h : reportable s) : reportable (takeBetween between s) := by
  cases between with
  | nothing => exact h
  | selfLease =>
    show reportable (takeSelfLease s)
    unfold takeSelfLease
    split
    · exact h.enterIsolated false
    · exact h
  | clear =>
    show reportable (transaction clearRequest s)
    have hd : s.mode ≠ .dormant := fun hm => by rw [lineOn_of_dormant hm] at hon; cases hon
    rcases transaction_cases clearRequest s with ⟨-, e⟩ | ⟨-, -, e⟩ | ⟨-, -, hm, -⟩ | ⟨-, -, -, e⟩
    · rw [e]; exact h
    · rw [e]; exact h
    · exact absurd hm hd
    · rw [e, clearRequest]
      split
      · exact reportable_enterStart s
      · exact h
  | muteWait =>
    show reportable (endMuteWait s)
    unfold endMuteWait
    split
    · exact reportable_enterStart s
    · exact h

/-- The report enters FAULT with its run started again (R150, R151). -/
theorem reportable.enterFault (h : reportable s) (hm : s.mode ≠ .fault) :
    faultEntered .overdraw s (enterFault .overdraw s) ∧ (Machine.enterFault .overdraw s).overdrawRun = 0 := by
  obtain ⟨ho, hr, hrun⟩ := h
  refine ⟨enterFault_entered .overdraw hm ho hr, ?_⟩
  rw [enterFault_eq .overdraw hm hr]
  exact faulting_overdrawRun .overdraw hrun

/-- A second cause changes nothing in FAULT (R149). -/
theorem enterFault_of_fault {cause : FaultCause} (hm : s.mode = .fault) : Machine.enterFault cause s = s := if_pos hm

end

/-- Settles O49: each band of the code against the level, and the report with what is taken before it. -/
theorem sampleIsJudgedAgainstTheLevel : Obligations.SampleIsJudgedAgainstTheLevel := by
  intro sensed first s
  refine ⟨fun hoff => congrArg Host.Outcome.next (takeSample_off hoff), fun hon => ?_⟩
  have hvalid := takeSample_valid (sensed := sensed) (first := first) hon
  have hunder : s.level + 1 < min 255 sensed → judgeUnder (min 255 sensed) s = { s with
      underRun := if s.level < 3 then s.underRun else 0, under := if s.level < 3 then s.under else false } :=
    fun h => judgeUnder_above (by omega)
  have hreport : s.settle = 0 → s.level + 1 < min 255 sensed → s.overdrawRun = 3 →
      takeSample sensed first s = enterFault .overdraw (takeBetween first { s with
        overdrawRun := 0
        underRun := if s.level < 3 then s.underRun else 0
        under := if s.level < 3 then s.under else false }) := by
    intro hs hc hrun
    rw [hvalid hs, hunder hc]
    exact judgeOverdraw_reported hc hrun
  have hbelow : s.settle = 0 → 3 ≤ s.level → sensed + 2 < s.level → s.level ≤ 255 →
      takeSample sensed first s = { judgeUnder sensed s with overdrawRun := 0 } := by
    intro hs h3 h hl
    rw [hvalid hs, min_eq_right (by omega)]
    refine judgeOverdraw_below ?_
    rw [judgeUnder_writes]
    show sensed ≤ s.level + 1
    omega
  refine ⟨fun hs => ?_, fun hs hc hrun => ?_, fun hs hc hrun hm hfirst ho hr => ?_, fun hs hc hrun => ?_,
    fun hs h3 h hl hrun => ?_, fun hs h3 h hl hrun hu => ?_, fun hs h3 h hl hrun => ?_, fun hs hc hl => ?_⟩
  · rw [exec_sample, takeSample_on hon, judgeSample, if_pos hs]
  · rw [exec_sample, hvalid hs, hunder hc]
    exact congrArg Host.Outcome.next (judgeOverdraw_raised hc hrun)
  · subst hfirst
    obtain ⟨hf, hz⟩ := reportable.enterFault (s := { s with
      overdrawRun := 0
      underRun := if s.level < 3 then s.underRun else 0
      under := if s.level < 3 then s.under else false }) ⟨ho, hr, rfl⟩ hm
    exact ⟨_, congrArg Host.Outcome.next (hreport hs hc hrun), hf, hz⟩
  · intro judged
    have hreport' : takeSample sensed first s = enterFault .overdraw (takeBetween first judged) := hreport hs hc hrun
    refine ⟨fun hm hfirst => ?_, fun ho hr u hu => ?_⟩
    · subst hfirst
      exact congrArg Host.Outcome.next (hreport'.trans (enterFault_of_fault (s := judged) hm))
    · have htaken : takeBetween first judged = u := by
        rcases hu with ⟨rfl, h⟩ | ⟨rfl, h⟩ | ⟨rfl, h⟩ <;> exact Host.Outcome.next.inj h
      have hready : reportable u := by
        rw [← htaken]
        exact reportable.takeBetween (s := judged) hon ⟨ho, hr, rfl⟩
      rw [htaken] at hreport'
      refine ⟨fun hm => ⟨_, congrArg Host.Outcome.next hreport', hready.enterFault hm⟩, fun hm => ?_⟩
      exact congrArg Host.Outcome.next (hreport'.trans (enterFault_of_fault hm))
  · rw [exec_sample, hbelow hs h3 h hl, judgeUnder_below h3 h, if_neg]
    · rw [min_eq_right (by omega)]
    · simp only [Bool.and_eq_true, decide_eq_true_eq]
      omega
  · rw [exec_sample, hbelow hs h3 h hl, judgeUnder_below h3 h, if_pos (by simp [hrun, hu]), hrun]
    rfl
  · have hcap : min 16 (s.underRun + 1) = s.underRun := by omega
    rw [exec_sample, hbelow hs h3 h hl, judgeUnder_below h3 h, if_neg (by simp [hrun]), hcap]
  · rw [exec_sample, hvalid hs, judgeUnder_above hl]
    exact congrArg Host.Outcome.next (judgeOverdraw_below hc)

/-! ### A droop assertion (R143) -/

/-- A smaller holding at an address makes no larger sum (R16). -/
theorem sumHoldings_putEntry_le {e f : Entry} (ha : e.address = f.address) (hh : e.holding ≤ f.holding)
    (l : List Entry) : sumHoldings (putEntry e l) ≤ sumHoldings (putEntry f l) := by
  induction l with
  | nil => simpa [putEntry] using hh
  | cons x xs ih =>
    simp only [putEntry, ha]
    split
    · simpa using hh
    · split
      · simpa using hh
      · simpa using ih

/-- The station with its load shed by a droop, before its pass and its notice (R143). -/
def droopShed (s : State) : State :=
  let s1 := { s with
    supplyLow := true
    droopHold := true
    recovery := none
    outbox := (s.outbox.cancel fun k => decide (k = .claim)).put .claim none }
  let s2 := setHolding 0 s1
  if 0 < s.holding then queueIntent .yield s2 else s2

section
variable {s : State}

theorem assertDroop_eq (s : State) :
    assertDroop s = latchEvent .droop (announceDemand s (ownPass s (droopShed s))) := rfl

theorem droopShed_writes (s : State) :
    allocatorOnly { s with supplyLow := true, droopHold := true, recovery := none } (droopShed s) := by
  unfold droopShed
  dsimp only
  split <;> (apply State.ext <;> simp)

@[simp] theorem droopShed_holding (s : State) : (droopShed s).holding = 0 := by
  unfold droopShed
  dsimp only
  split <;> simp

@[simp] theorem droopShed_droopHold (s : State) : (droopShed s).droopHold = true := by rw [droopShed_writes]

@[simp] theorem droopShed_mode (s : State) : (droopShed s).mode = s.mode := by rw [droopShed_writes]

theorem droopShed_outbox (s : State) : (droopShed s).outbox = { s.outbox.cancel (fun k => decide (k = .claim)) with
    claim := none, yield := if 0 < s.holding then queuedInto s.outbox.yield else s.outbox.yield } := by
  unfold droopShed
  dsimp only
  split <;> simp [Outbox.put, Outbox.get, Outbox.cancel, mergeQueued_eq]

theorem droopShed_output (h : s.OutputInv) : (droopShed s).rampTarget = 0 ∧ (droopShed s).level = 0 := by
  have hset := setHolding_zero (s := { s with
    supplyLow := true, droopHold := true, recovery := none
    outbox := (s.outbox.cancel fun k => decide (k = .claim)).put .claim none }) h
  unfold droopShed
  dsimp only
  split <;> simpa using hset

/-- With nothing held nothing is shed (R143). -/
theorem droopShed_idle (h : s.holding = 0) : droopShed s = { s with
    supplyLow := true, droopHold := true, recovery := none
    outbox := (s.outbox.cancel fun k => decide (k = .claim)).put .claim none } := by
  unfold droopShed
  dsimp only
  rw [if_neg (by omega)]
  exact if_pos h.symm

theorem droopShed_latched (h : 0 < s.holding) : (droopShed s).latched .output = true := by
  have hset := setHolding_zero_latched (s := { s with
    supplyLow := true, droopHold := true, recovery := none
    outbox := (s.outbox.cancel fun k => decide (k = .claim)).put .claim none }) h
  unfold droopShed
  dsimp only
  rw [if_pos h, latched_congr (queueIntent_latch _ _)]
  exact hset

/-- Shedding begins no overcommit (R17). -/
theorem droopShed_overcommitted (h : (droopShed s).overcommitted = true) : s.overcommitted = true := by
  have hle : (droopShed s).rosterSum ≤ s.rosterSum := by
    have hw := droopShed_writes s
    have hown : (droopShed s).hasOwnEntry = s.hasOwnEntry := by rw [hw]; rfl
    have hreplicas : (droopShed s).replicas = s.replicas := by rw [hw]
    have haddress : (droopShed s).address = s.address := by rw [hw]
    unfold State.rosterSum State.roster
    rw [hown, hreplicas]
    split
    · exact sumHoldings_putEntry_le (e := (droopShed s).ownEntry) (f := s.ownEntry) haddress
        (by show (droopShed s).holding ≤ _; simp) _
    · exact le_refl _
  have hbudget : (droopShed s).budget = s.budget := by rw [droopShed_writes]; rfl
  have hover := of_decide_eq_true h
  exact decide_eq_true (by omega)

/-- In droop hold a station that holds nothing takes its new target and does no more (R32). -/
theorem recompute_droop (hh : s.holding = 0) (hd : s.droopHold = true) :
    recompute s = { s with target := s.fairTarget } :=
  recompute_quiet (by omega) (by simp [State.claimWanted, hd])

/-- The pass behind a droop assertion writes the target and suppression alone (R31, R143). -/
theorem ownPass_droopShed (s : State) : ∃ target suppression,
    ownPass s (droopShed s) = { droopShed s with target := target, suppression := suppression } := by
  unfold ownPass
  split
  · rw [rosterPass_of_covered droopShed_overcommitted, recompute_droop (by simp) (by simp)]
    exact ⟨_, none, rfl⟩
  · exact ⟨_, _, rfl⟩

/-- With no CLAIM there, a notice touches RENEW alone (R86). -/
theorem announceDemand_outbox {before : State} (hc : s.outbox.claim = none) :
    (announceDemand before s).outbox.claim = none ∧
    (announceDemand before s).outbox.inFlight = s.outbox.inFlight ∧
    (announceDemand before s).outbox.yield = s.outbox.yield := by
  unfold announceDemand
  split
  · unfold demandNotice
    split
    · exact ⟨hc, rfl, rfl⟩
    · rw [hc]
      exact ⟨hc, rfl, rfl⟩
  · exact ⟨hc, rfl, rfl⟩

/-- A notice with no YIELD and no CLAIM there is left to a RENEW that is not covered (R86). -/
theorem announceDemand_renew {before : State} (hm : s.mode.takesNotice = true)
    (ha : before.advertised ≠ s.advertised) (hy : s.outbox.yield = none) (hc : s.outbox.claim = none) :
    ∃ i, (announceDemand before s).outbox.renew = some i ∧ i.covered = false := by
  have hnotice := announceDemand_announcing (before := before) hm ha
  obtain ⟨hc', -, hy'⟩ := announceDemand_outbox (before := before) hc
  rcases hnotice with h | ⟨-, i, h, -⟩ | ⟨-, -, h⟩
  · rw [hy', hy] at h; cases h
  · rw [hc'] at h; cases h
  · exact h

end

/-- Settles O50: the load shed by `droopShed`, the pass that begins no overcommit, and the notice. -/
theorem droopAssertionDropsTheLoad : Obligations.DroopAssertionDropsTheLoad := by
  intro s
  refine ⟨fun hon hs ho hh => ?_, fun h => congrArg Host.Outcome.next (if_neg ?_)⟩
  · obtain ⟨target, suppression, hpass⟩ := ownPass_droopShed s
    have hclaim : (ownPass s (droopShed s)).outbox.claim = none := by rw [hpass]; simp [droopShed_outbox]
    obtain ⟨hc, hflight, hyield⟩ := announceDemand_outbox (before := s) hclaim
    obtain ⟨hramp, hlevel⟩ := droopShed_output ho
    have hadv : (ownPass s (droopShed s)).advertised = 0 := by rw [hpass]; simp [State.advertised]
    refine ⟨assertDroop s, congrArg Host.Outcome.next (if_pos (by simp [hon, hs])), ?_, ?_, ?_, assertDroop_holding s,
      ?_, ?_, ?_, hc, ?_, latchEvent_latched_self, fun h => ⟨?_, ?_⟩, fun hm h0 ha hy => ?_, fun h0 ha => ?_, ?_⟩
    · rw [assertDroop_writes]
    · rw [assertDroop_writes]
    · rw [assertDroop_writes]
    · rw [assertDroop_eq, latchEvent_level, announceDemand_level, hpass]
      exact hlevel
    · rw [assertDroop_eq, latchEvent_rampTarget, announceDemand_rampTarget, hpass]
      exact hramp
    · rw [State.advertised, assertDroop_writes]
      simp
    · intro f hf hk
      have hf' : f ∈ (ownPass s (droopShed s)).outbox.inFlight := hflight ▸ hf
      rw [hpass] at hf'
      simp only [droopShed_outbox, Outbox.cancel, Option.mem_def, Option.map_eq_some_iff] at hf'
      obtain ⟨g, -, rfl⟩ := hf'
      split
      · rfl
      next hg => rw [if_neg hg] at hk; simp [hk] at hg
    · refine latchEvent_latched _ (announceDemand_latched _ (ownPass_latched _ (droopShed_latched h)))
    · have hy : (assertDroop s).outbox.yield = (ownPass s (droopShed s)).outbox.yield := hyield
      rw [hy, hpass]
      simp [droopShed_outbox, h, queuedInto]
    · refine announceDemand_renew (before := s) (s := ownPass s (droopShed s)) ?_ (by rw [hadv]; omega) ?_ hclaim
      · rw [hpass]
        rcases hm with hm | hm <;> simp [hm, Mode.takesNotice]
      · rw [hpass]
        simp [droopShed_outbox, h0, hy]
    · have hshed := droopShed_idle h0
      have hsame : s.advertised = (droopShed s).advertised := by
        rw [ha]
        simp [State.advertised]
      rw [assertDroop_eq, ownPass_unchanged (h0.trans (droopShed_holding s).symm) hsame,
        announceDemand_unchanged hsame, hshed]
      rfl
    · exact (((droopShed_writes s).trans (allocatorOnly.rfl.ownPass s)).announceDemand s).latchEvent .droop
  · rcases h with h | h <;> simp [h]

/-! ### The end of droop hold (R144) -/

section
variable {s : State}

/-- A station that holds nothing latches nothing in a recompute (R32). -/
theorem recompute_latch_of_idle (hh : s.holding = 0) : (recompute s).latch = s.latch := by
  rcases recompute_cases s with ⟨h, -⟩ | ⟨-, hc, -⟩ | ⟨-, -, e⟩
  · omega
  · rw [recompute_claims hc]
  · rw [e]; rfl

theorem clearDroopHold_allocatorOnly (s : State) :
    allocatorOnly { s with droopHold := false, recovery := none } (clearDroopHold s) :=
  ((allocatorOnly.rfl.entryPass s).announceDemand s).renewOnRise s

/-- The pass behind the end of droop hold (R31). -/
theorem entryPass_target (before s : State) : (entryPass before s).target = (entryPass before s).fairTarget := by
  unfold entryPass
  rw [recompute_fairTarget, recompute_target]

theorem clearDroopHold_target (s : State) : (clearDroopHold s).target = (clearDroopHold s).fairTarget := by
  refine ((renewOnRise_target _ _).trans (announceDemand_target _ _)).trans ((entryPass_target _ _).trans ?_)
  refine (fairTarget_congr (t := renewOnRise s (announceDemand s (entryPass s { s with
    droopHold := false, recovery := none }))) ?_ ?_ ?_ ?_ ?_).symm
  all_goals simp [State.hasOwnEntry, State.advertised]

theorem clearDroopHold_advertised (hm : s.mode.advertises = true) : (clearDroopHold s).advertised = s.requested := by
  have hw := clearDroopHold_allocatorOnly s
  rw [advertised_of_advertises] <;> rw [hw]
  exact hm

theorem clearDroopHold_latch (hh : s.holding = 0) : (clearDroopHold s).latch = s.latch := by
  refine ((renewOnRise_latch _ _).trans (announceDemand_latch _ _)).trans ?_
  unfold entryPass
  split <;> exact recompute_latch_of_idle (by simpa using hh)

/-- In START the end of droop hold queues nothing (R26). -/
theorem clearDroopHold_outbox (hm : s.mode = .start) (hh : s.holding = 0) : (clearDroopHold s).outbox = s.outbox := by
  have hpass : (entryPass s { s with droopHold := false, recovery := none }).outbox = s.outbox := by
    unfold entryPass
    split
    · rw [recompute_outside (by simp [hm]) (by simpa using hh)]
      rfl
    · rw [recompute_outside (by simp [hm]) (by simpa using hh)]
  have hmode : (entryPass s { s with droopHold := false, recovery := none }).mode = .start := by simp [hm]
  have hstill : announceDemand s (entryPass s { s with droopHold := false, recovery := none }) =
      entryPass s { s with droopHold := false, recovery := none } := if_neg (by rw [hmode]; simp [Mode.takesNotice])
  rw [clearDroopHold, hstill, renewOnRise, if_neg (by rw [hmode]; simp), hpass]

/-- In LEARNING and MEMBER the demand that comes back is announced (R26, R86). -/
theorem clearDroopHold_announcing (hm : s.mode.takesNotice = true) (hd : s.droopHold = true) (hw : 0 < s.requested) :
    announcing (clearDroopHold s).outbox := by
  have hadv : s.mode.advertises = true := by revert hm; cases s.mode <;> decide
  refine renewOnRise_announcing _ (announceDemand_announcing (by simpa using hm) ?_)
  have hbefore : s.advertised = 0 := by simp [State.advertised, hd]
  have hafter : (entryPass s { s with droopHold := false, recovery := none }).advertised = s.requested := by
    simp [State.advertised, hadv]
  rw [hbefore, hafter]
  omega

/-- Where nothing is advertised the end of droop hold brings the target 0 alone (R144). -/
theorem clearDroopHold_silent (hm : s.mode.advertises = false) (hh : s.holding = 0) (hr : s.RosterInv) :
    clearDroopHold s = { s with droopHold := false, recovery := none, target := 0 } := by
  have hbefore : s.advertised = 0 := advertised_of_silent_mode hm
  have hafter : ({ s with droopHold := false, recovery := none } : State).advertised = 0 :=
    advertised_of_silent_mode hm
  have hsame : ownChanged s { s with droopHold := false, recovery := none } = false := by
    simp [ownChanged, hbefore, hafter]
  have hpass : entryPass s { s with droopHold := false, recovery := none } =
      { s with droopHold := false, recovery := none, target := 0 } := by
    rw [entryPass_idle (s := { s with droopHold := false, recovery := none }) hr.2 hh hafter, hsame]
    rfl
  have hadv : s.advertised = ({ s with droopHold := false, recovery := none, target := 0 } : State).advertised :=
    hbefore.trans (advertised_of_silent_mode (s := { s with droopHold := false, recovery := none, target := 0 }) hm).symm
  rw [clearDroopHold, hpass, announceDemand_unchanged hadv]
  exact renewOnRise_unchanged rfl hadv

theorem recoveryDue_of_recovery (hon : s.droopMonitorOn = true) {n : Nat} (hn : s.recovery = some n) :
    s.recoveryDue = true ↔ s.lease / 4 ≤ n := by
  have hran : s.recoveryDue = ranFor (some n) s.renewInterval := by rw [State.recoveryDue, hon, hn, Bool.true_and]
  rw [hran]
  exact ranFor_some

end

/-- Settles O51: the recovery timer, and what the end of droop hold announces, state by state. -/
theorem recoveryClearsDroopHold : Obligations.RecoveryClearsDroopHold := by
  intro s hon
  refine ⟨fun hs => ?_, fun hs => ?_, fun n hn hd hh hr => ⟨fun hdue hm => ?_, fun hdue hm => ?_, fun hdue => ?_⟩⟩
  · refine congrArg Host.Outcome.next (if_pos ?_)
    simp [hon, hs]
  · refine congrArg Host.Outcome.next (if_neg ?_)
    simp [hs]
  · have hadv : s.mode.advertises = true := by rcases hm with h | h | h <;> rw [h] <;> rfl
    refine ⟨clearDroopHold s, congrArg Host.Outcome.next (if_pos ((recoveryDue_of_recovery hon hn).2 hdue)),
      clearDroopHold_advertised hadv, clearDroopHold_target s, ?_, clearDroopHold_latch hh,
      fun h => clearDroopHold_outbox h hh, fun h hw => clearDroopHold_announcing ?_ hd hw,
      clearDroopHold_allocatorOnly s⟩
    · have hle := clearDroopHold_holding_le s
      omega
    · rcases hm with h' | h' | h'
      · exact absurd h' h
      · rw [h']; rfl
      · rw [h']; rfl
  · have hadv : s.mode.advertises = false := by rcases hm with h | h | h <;> rw [h] <;> rfl
    exact congrArg Host.Outcome.next ((if_pos ((recoveryDue_of_recovery hon hn).2 hdue)).trans
      (clearDroopHold_silent hadv hh hr))
  · refine congrArg Host.Outcome.next (if_neg ?_)
    rw [recoveryDue_of_recovery hon hn]
    omega

end Sys2Proof.Machine
end

section
/-! The fair-share targets (02 section 2.2, R27 to R30): the deal of the remainder over the first shares, read off place by
place, its sum, and the target at an address. -/

namespace Sys2Proof.Machine

/-! ### The deal (R29) -/

section
variable {level r : Nat} {w : List Entry}

theorem dealTargets_addresses (level r : Nat) (w : List Entry) :
    (dealTargets level r w).map Prod.fst = w.map Entry.address := by
  induction w generalizing r with
  | nil => rfl
  | cons e es ih =>
    simp only [dealTargets]
    split_ifs <;> simp [ih]

/-- What the deal adds to the first share of the member behind `pre`: a unit while the remainder lasts. -/
def dealtUnit (level r : Nat) (pre : List Entry) (e : Entry) : Nat :=
  if level < e.demand ∧ (pre.filter fun x => decide (level < x.demand)).length < r then 1 else 0

theorem dealTargets_cons (level r : Nat) (e : Entry) (es : List Entry) :
    dealTargets level r (e :: es) = (e.address, min e.demand level + dealtUnit level r [] e) ::
      dealTargets level (if level < e.demand then r - 1 else r) es := by
  unfold dealtUnit
  by_cases he : level < e.demand
  · by_cases hr : 0 < r
    · simp [dealTargets, he, hr, min_eq_right he.le]
    · obtain rfl : r = 0 := by omega
      simp [dealTargets, he, min_eq_right he.le]
  · simp [dealTargets, he, min_eq_left (Nat.not_lt.1 he)]

theorem dealTargets_place (level r : Nat) (pre : List Entry) (e : Entry) (post : List Entry) :
    (dealTargets level r (pre ++ e :: post))[pre.length]? =
      some (e.address, min e.demand level + dealtUnit level r pre e) := by
  induction pre generalizing r with
  | nil => rw [List.nil_append, dealTargets_cons]; rfl
  | cons x xs ih =>
    have hunit : dealtUnit level (if level < x.demand then r - 1 else r) xs e = dealtUnit level r (x :: xs) e := by
      unfold dealtUnit
      by_cases hx : level < x.demand
      · simp only [hx, if_true, List.filter_cons, decide_true, List.length_cons]
        exact if_congr (and_congr_right fun _ => by omega) rfl rfl
      · simp [hx]
    rw [List.cons_append, dealTargets_cons, List.length_cons, List.getElem?_cons_succ, ih, hunit]

/-- The deal hands out the remainder as far as there are members to take it (R29). -/
theorem dealTargets_sum (level r : Nat) (w : List Entry) : ((dealTargets level r w).map Prod.snd).sum =
    firstShares level w + min r (w.filter fun e => decide (level < e.demand)).length := by
  induction w generalizing r with
  | nil => simp [dealTargets]
  | cons e es ih =>
    rw [dealTargets_cons, List.map_cons, List.sum_cons, ih, firstShares_cons]
    unfold dealtUnit
    by_cases he : level < e.demand
    · simp only [he, if_true, List.filter_nil, List.length_nil, List.filter_cons, decide_true, List.length_cons, true_and]
      split <;> omega
    · simp only [he, if_false, false_and, List.filter_cons, decide_false]
      simp [Nat.add_assoc]

end

/-! ### The targets of a roster (R27, R29) -/

section
variable {budget : Nat} {l : List Entry}

theorem fairTargets_of_lt (h : lapsedHoldings l < budget) : fairTargets budget l =
    dealTargets (fairLevel (budget - lapsedHoldings l) (wanting l))
      (budget - lapsedHoldings l - firstShares (fairLevel (budget - lapsedHoldings l) (wanting l)) (wanting l))
      (wanting l) := by
  have hb : (reducedBudget budget l).toNat = budget - lapsedHoldings l := by unfold reducedBudget; omega
  rw [fairTargets, if_neg (by unfold reducedBudget; omega), hb]

theorem fairTargets_of_le (h : budget ≤ lapsedHoldings l) : fairTargets budget l = [] :=
  if_pos (by unfold reducedBudget; omega)

/-- The targets fill the reduced budget, or every member has its full demand (R28, R29). -/
theorem fairTargets_sum (h : lapsedHoldings l < budget) :
    ((fairTargets budget l).map Prod.snd).sum ≤ budget - lapsedHoldings l ∧
    (fairLevel (budget - lapsedHoldings l) (wanting l) < 255 →
      ((fairTargets budget l).map Prod.snd).sum = budget - lapsedHoldings l) := by
  have hfit := firstShares_fairLevel_le (budget - lapsedHoldings l) (wanting l)
  rw [fairTargets_of_lt h, dealTargets_sum]
  refine ⟨by omega, fun hlevel => ?_⟩
  have hover := lt_firstShares_fairLevel_succ hlevel
  rw [firstShares_succ] at hover
  omega

/-- A table in ascending order, entry by entry (R4). -/
theorem rising_iff_pairwise : rising l = true ↔ l.Pairwise fun x y => x.address < y.address := by
  induction l with
  | nil => simp [rising]
  | cons x xs ih => rw [rising_cons, List.pairwise_cons, ih]

theorem wanting_pairwise (h : rising l = true) : (wanting l).Pairwise fun x y => x.address < y.address :=
  (rising_iff_pairwise.1 h).filter _

/-- In a list with one pair at each address the pair at an address is the one found there. -/
theorem find_of_distinct {ps : List (Address × Nat)} (h : (ps.map Prod.fst).Nodup) {p : Address × Nat} (hp : p ∈ ps) :
    ps.find? (fun q => decide (q.1 = p.1)) = some p := by
  induction ps with
  | nil => cases hp
  | cons q qs ih =>
    obtain ⟨hq, hqs⟩ := List.nodup_cons.1 h
    rcases List.mem_cons.1 hp with rfl | hp'
    · simp
    · have hne : q.1 ≠ p.1 := fun e => hq (List.mem_map.2 ⟨p, hp', e.symm⟩)
      rw [List.find?_cons_of_neg (by simpa using hne), ih hqs hp']

theorem fairTargets_nodup (h : rising l = true) : ((fairTargets budget l).map Prod.fst).Nodup := by
  rcases Nat.lt_or_ge (lapsedHoldings l) budget with hb | hb
  · rw [fairTargets_of_lt hb, dealTargets_addresses, List.nodup_iff_pairwise_ne, List.pairwise_map]
    exact (wanting_pairwise h).imp fun hlt heq => by rw [heq] at hlt; exact absurd hlt (BitVec.lt_irrefl _)
  · rw [fairTargets_of_le hb]
    exact List.nodup_nil

theorem targetAt_of_mem (h : rising l = true) {p : Address × Nat} (hp : p ∈ fairTargets budget l) :
    targetAt budget l p.1 = p.2 := by
  rw [targetAt, find_of_distinct (fairTargets_nodup h) hp]

/-- Where no target is listed it is 0 (R29). -/
theorem targetAt_of_absent {a : Address} (h : ∀ p ∈ fairTargets budget l, p.1 ≠ a) : targetAt budget l a = 0 := by
  have hfind : (fairTargets budget l).find? (fun p => decide (p.1 = a)) = none := by
    rw [List.find?_eq_none]
    exact fun p hp => by simpa using h p hp
  rw [targetAt, hfind]

end

/-- Settles O54: the deal place by place, its sum, and the target read at an address. -/
theorem fairTargetsFitTheReducedBudget : Obligations.FairTargetsFitTheReducedBudget := by
  refine ⟨fun budget l hdemand => ?_, fun s hinv hr hm => ?_⟩
  · intro w lapsed level remainder targets
    have hw : w = wanting l := rfl
    have hlapsed : lapsed = lapsedHoldings l := rfl
    refine ⟨fun hb => ?_, fun hb a => ?_, fun a ha => ?_⟩
    · have htargets : targets = dealTargets level remainder w := fairTargets_of_lt hb
      obtain ⟨hle, hfull⟩ := fairTargets_sum (budget := budget) (l := l) hb
      refine ⟨?_, fun pre e post hsplit => ?_, fun hrise pre e post hsplit x hx => ?_, fun hrise p hp =>
        targetAt_of_mem hrise hp, fun p hp => fairTargets_le hp, hle, hfull⟩
      · rw [htargets, dealTargets_addresses]
      · rw [htargets]
        have hplace := dealTargets_place level remainder pre e post
        rw [← hsplit] at hplace
        exact hplace
      · have hpair := wanting_pairwise hrise
        rw [← hw, hsplit, List.pairwise_append] at hpair
        exact hpair.2.2 x hx e (by simp)
    · exact targetAt_of_absent (by rw [fairTargets_of_le hb]; simp)
    · refine targetAt_of_absent fun p hp => ?_
      obtain ⟨e, he, hep⟩ := fairTargets_mem hp
      exact hep ▸ ha e he
  · intro own listed
    have hroster : s.roster = putEntry own s.replicas := if_pos (by simp [State.hasOwnEntry, hr, hm])
    have hfair : s.fairTarget = targetAt s.record.b1.toNat (putEntry own s.replicas) s.address := by
      rw [State.fairTarget, hroster]
      rfl
    refine ⟨?_, fun p hp ha => ?_, fun h => ?_⟩
    · have hadv : s.mode.advertises = true ↔ s.mode = .start ∨ s.mode = .learning ∨ s.mode = .member := by
        cases s.mode <;> simp [Mode.advertises]
      simp [State.advertised, hadv]
    · rw [hfair, ← ha]
      exact targetAt_of_mem (rising_putEntry hinv.1) hp
    · rw [hfair]
      exact targetAt_of_absent h

end Sys2Proof.Machine
end

section
/-! The frame on the line (03 section 3.1, 04 sections 4.2 to 4.5, 12 section 12.1): its bits and marks, the lows they
make, how every station reads them back, and which of two contenders goes on. -/

namespace Sys2Proof.Machine

/-! ### Bits and their values (R174) -/

theorem mod_two_pow_testBit (n w : Nat) : n % 2 ^ (w + 1) = n % 2 ^ w + 2 ^ w * (n.testBit w).toNat := by
  rw [Nat.mod_pow_succ, Nat.toNat_testBit]

theorem foldl_natBits (w n acc : Nat) :
    (natBits w n).foldl (fun v b => 2 * v + b.toNat) acc = acc * 2 ^ w + n % 2 ^ w := by
  induction w generalizing acc with
  | zero => simp [natBits, Nat.mod_one]
  | succ w ih =>
    rw [natBits, List.foldl_cons, ih, mod_two_pow_testBit]
    ring

/-- The bits of a number that fits give it back (R174). -/
theorem bitsValue_natBits {w n : Nat} (h : n < 2 ^ w) : bitsValue (natBits w n) = n := by
  rw [bitsValue, foldl_natBits, Nat.zero_mul, Nat.zero_add, Nat.mod_eq_of_lt h]

@[simp] theorem natBits_length (w n : Nat) : (natBits w n).length = w := by
  induction w with
  | zero => rfl
  | succ w ih => simp [natBits, ih]

theorem natBits_mod (w n : Nat) {v : Nat} (h : w ≤ v) : natBits w (n % 2 ^ v) = natBits w n := by
  induction w with
  | zero => rfl
  | succ w ih =>
    have hw : w < v := h
    rw [natBits, natBits, ih hw.le, Nat.testBit_mod_two_pow, decide_eq_true hw, Bool.true_and]

/-- Of two numbers the larger has a 1 where their bits first differ (R41). -/
theorem natBits_split {w m n : Nat} (hm : m < 2 ^ w) (h : n < m) :
    ∃ pre a b, pre.length < w ∧ natBits w m = pre ++ true :: a ∧ natBits w n = pre ++ false :: b := by
  induction w generalizing m n with
  | zero => omega
  | succ w ih =>
    have hmod := mod_two_pow_testBit m w
    have hmod' := mod_two_pow_testBit n w
    rw [Nat.mod_eq_of_lt hm] at hmod
    rw [Nat.mod_eq_of_lt (h.trans hm)] at hmod'
    have hlow := Nat.mod_lt m (Nat.two_pow_pos w)
    have hlow' := Nat.mod_lt n (Nat.two_pow_pos w)
    have hsame : m % 2 ^ w > n % 2 ^ w → m.testBit w = n.testBit w →
        ∃ pre a b, pre.length < w + 1 ∧ natBits (w + 1) m = pre ++ true :: a ∧ natBits (w + 1) n = pre ++ false :: b := by
      intro hlt heq
      obtain ⟨pre, a, b, hlen, ha, hb⟩ := ih hlow hlt
      rw [natBits_mod w m le_rfl] at ha
      rw [natBits_mod w n le_rfl] at hb
      exact ⟨m.testBit w :: pre, a, b, by simpa using hlen, by rw [natBits, ha]; rfl, by rw [natBits, hb, heq]; rfl⟩
    cases hbm : m.testBit w <;> cases hbn : n.testBit w <;>
      simp only [hbm, hbn, Bool.toNat_true, Bool.toNat_false] at hmod hmod'
    · exact hsame (by omega) (by rw [hbm, hbn])
    · omega
    · exact ⟨[], _, _, by simp, by rw [natBits, hbm]; rfl, by rw [natBits, hbn]; rfl⟩
    · exact hsame (by omega) (by rw [hbm, hbn])

theorem Kind.bits_eq_natBits (k : Kind) : k.bits = natBits 3 (bitsValue k.bits) := by cases k <;> rfl

theorem Kind.bitsValue_lt_of_rank {j k : Kind} (h : j.rank < k.rank) :
    bitsValue k.bits < bitsValue j.bits ∧ bitsValue j.bits < 2 ^ 3 := by
  revert h
  cases j <;> cases k <;> decide

/-- Of two kinds the one of the lower rank has a 1 where their codes first differ (R41). -/
theorem Kind.bits_split {j k : Kind} (h : j.rank < k.rank) :
    ∃ pre a b, pre.length < 3 ∧ j.bits = pre ++ true :: a ∧ k.bits = pre ++ false :: b := by
  obtain ⟨hlt, hfit⟩ := Kind.bitsValue_lt_of_rank h
  rw [j.bits_eq_natBits, k.bits_eq_natBits]
  exact natBits_split hfit hlt

@[simp] theorem Kind.bits_length (k : Kind) : k.bits.length = 3 := by cases k <;> rfl

/-- Two contending headers first differ where the winner's has a 1 (R41). -/
theorem header_split {f g : FrameFields}
    (h : f.kind.rank < g.kind.rank ∨ (f.kind = g.kind ∧ g.sender.toNat < f.sender.toNat)) :
    ∃ pre a b, pre.length < 7 ∧ f.bits = pre ++ true :: a ∧ g.bits = pre ++ false :: b := by
  rcases h with h | ⟨hk, h⟩
  · obtain ⟨pre, a, b, hlen, ha, hb⟩ := Kind.bits_split h
    refine ⟨pre, a ++ natBits 4 f.sender.toNat ++ natBits 8 f.holding ++ natBits 8 f.demand,
      b ++ natBits 4 g.sender.toNat ++ natBits 8 g.holding ++ natBits 8 g.demand, by omega, ?_, ?_⟩
    · rw [FrameFields.bits, ha]; simp
    · rw [FrameFields.bits, hb]; simp
  · obtain ⟨pre, a, b, hlen, ha, hb⟩ := natBits_split f.sender.isLt h
    refine ⟨f.kind.bits ++ pre, a ++ natBits 8 f.holding ++ natBits 8 f.demand,
      b ++ natBits 8 g.holding ++ natBits 8 g.demand, by simp; omega, ?_, ?_⟩
    · rw [FrameFields.bits, ha]; simp
    · rw [FrameFields.bits, hb, hk]; simp

/-! ### The first mismatch (R77, R78) -/

/-- Marks read as sent are no mismatch; the comparison goes on behind them. -/
theorem firstMismatch_append (n : Nat) (pre ms : List Mark) (reads : List PositionRead) :
    firstMismatch n (pre ++ ms) (pre.map PositionRead.mark ++ reads) = firstMismatch (n + pre.length) ms reads := by
  induction pre generalizing n with
  | nil => rfl
  | cons p ps ih =>
    rw [List.cons_append, List.map_cons, List.cons_append, firstMismatch, if_pos rfl, ih, List.length_cons]
    congr 1
    omega

theorem firstMismatch_self (ms : List Mark) : firstMismatch 0 ms (ms.map PositionRead.mark) = none := by
  have h := firstMismatch_append 0 ms [] []
  rw [List.append_nil, List.append_nil] at h
  rw [h]
  rfl

theorem firstMismatch_at {m : Mark} {read : PositionRead} (h : read ≠ .mark m) (pre post : List Mark)
    (rest : List PositionRead) :
    firstMismatch 0 (pre ++ m :: post) (pre.map PositionRead.mark ++ read :: rest) =
      some (mismatchAt pre.length m read, pre.length) := by
  rw [firstMismatch_append, firstMismatch, if_neg h, Nat.zero_add]

/-! ### Arbitration -/

/-- What the wired-AND line carries of two marks (R66). -/
def lineMark (p : Mark × Mark) : Mark := if p.1 = .long ∨ p.2 = .long then .long else .short

theorem lineMark_self (ms : List Mark) : (ms.zip ms).map lineMark = ms := by
  induction ms with
  | nil => rfl
  | cons m ms ih =>
    rw [List.zip_cons_cons, List.map_cons, ih]
    cases m <;> rfl

/-- Settles O30: at the first difference of the headers the winner's long mark stands on the line. -/
theorem lowerRankThenHigherAddressWins : Obligations.LowerRankThenHigherAddressWins := by
  intro f g h
  obtain ⟨pre, a, b, hlen, hf, hg⟩ := header_split h
  refine ⟨pre.length, hlen, ?_⟩
  intro winner loser both line
  have hwinner : winner = pre.map Mark.ofBit ++ .long :: (a ++ byteBits (crc8 f.bits)).map Mark.ofBit := by
    show ((f.bits ++ byteBits (crc8 f.bits)).map Mark.ofBit) = _
    rw [show f.bits ++ byteBits (crc8 f.bits) = pre ++ true :: (a ++ byteBits (crc8 f.bits)) by
      conv_lhs => arg 1; rw [hf]
      simp]
    simp [Mark.ofBit]
  have hloser : loser = pre.map Mark.ofBit ++ .short :: (b ++ byteBits (crc8 g.bits)).map Mark.ofBit := by
    show ((g.bits ++ byteBits (crc8 g.bits)).map Mark.ofBit) = _
    rw [show g.bits ++ byteBits (crc8 g.bits) = pre ++ false :: (b ++ byteBits (crc8 g.bits)) by
      conv_lhs => arg 1; rw [hg]
      simp]
    simp [Mark.ofBit]
  generalize (a ++ byteBits (crc8 f.bits)).map Mark.ofBit = wa at hwinner
  generalize (b ++ byteBits (crc8 g.bits)).map Mark.ofBit = lb at hloser
  generalize hp : pre.map Mark.ofBit = p at hwinner hloser
  have hk : pre.length = p.length := by rw [← hp, List.length_map]
  have hboth : both.take (pre.length + 1) = p ++ [.long] := by
    show ((winner.zip loser).map lineMark).take (pre.length + 1) = _
    rw [hwinner, hloser, List.zip_append rfl, List.zip_cons_cons, List.map_append, List.map_cons, lineMark_self,
      hk]
    simp [List.take_append, lineMark]
  have hline : line = (p ++ .long :: wa).map PositionRead.mark := by
    show (both.take (pre.length + 1) ++ winner.drop (pre.length + 1)).map PositionRead.mark = _
    rw [hboth, hwinner, hk]
    simp
  refine ⟨?_, ?_, ?_⟩
  · rw [hwinner, hloser, hk]
    simp
  · rw [hline, hwinner]
    exact firstMismatch_self _
  · rw [hline, hloser, List.map_append, List.map_cons, firstMismatch_at (by decide), hk, mismatchAt, if_pos (by simp),
      if_pos (by rw [← hk]; exact hlen)]

/-! ### The lows of a sent frame, read back (R66, R70) -/

section
variable {k n : Nat} {ms : List Mark}

theorem windowOpening_eq (k : Nat) : windowOpening k = 20 + 30 * k := rfl

/-- The low that mark `m` makes at position `k` (R66). -/
def markLow (k : Nat) (m : Mark) : Low := ⟨windowOpening k + 5, m.drive⟩

theorem markLows_cons (n : Nat) (m : Mark) (ms : List Mark) :
    markLows n (m :: ms) = markLow n m :: markLows (n + 1) ms := rfl

theorem Mark.drive_eq (m : Mark) : m.drive = if m = .long then 20 else 10 := by cases m <;> rfl

theorem Mark.drive_bounds (m : Mark) : 10 ≤ m.drive ∧ m.drive ≤ 20 := by cases m <;> decide

theorem mem_markLows {l : Low} (h : l ∈ markLows n ms) :
    ∃ k m, n ≤ k ∧ k < n + ms.length ∧ l = markLow k m := by
  induction ms generalizing n with
  | nil => cases h
  | cons m ms ih =>
    rcases List.mem_cons.1 h with rfl | h
    · exact ⟨n, m, le_rfl, by simp, rfl⟩
    · obtain ⟨k, m', hn, hk, rfl⟩ := ih h
      exact ⟨k, m', by omega, by rw [List.length_cons]; omega, rfl⟩

theorem inSpan_markLow (j k : Nat) (m : Mark) : inSpan k (markLow j m) = decide (j = k) := by
  rw [Bool.eq_iff_iff]
  simp only [inSpan, Bool.and_eq_true, Bool.or_eq_true, decide_eq_true_eq, beq_iff_eq]
  simp only [markLow, windowOpening_eq]
  omega

theorem inWindow_markLow (k : Nat) (m : Mark) : inWindow k (markLow k m) = true := by
  simp [inWindow, markLow, Config.window]

theorem readLow_markLow (k : Nat) (m : Mark) : readLow (markLow k m) = .mark m := by cases m <;> rfl

/-- In the span of a position stands the low of its own mark alone (R70). -/
theorem markLows_inSpan (n : Nat) (ms : List Mark) {k : Nat} {m : Mark} (h : ms[k]? = some m) :
    (markLows n ms).filter (inSpan (n + k)) = [markLow (n + k) m] := by
  induction ms generalizing n k with
  | nil => cases h
  | cons x xs ih =>
    rw [markLows_cons, List.filter_cons, inSpan_markLow]
    cases k with
    | zero =>
      obtain rfl : x = m := by simpa using h
      rw [if_pos (by simp), List.filter_eq_nil_iff.2]
      · rfl
      · intro l hl
        obtain ⟨j, m', hj, -, rfl⟩ := mem_markLows hl
        rw [inSpan_markLow]
        simp
        omega
    | succ k =>
      rw [if_neg (by simp), ← Nat.succ_add_eq_add_succ]
      exact ih (n + 1) (by simpa using h)

/-- What each position reads as, whatever the slots carry behind the marks (R70). -/
theorem readPosition_markLows {slots : List Low} (hslots : ∀ l ∈ slots, 950 ≤ l.start) {m : Mark} (hk : k < 31)
    (h : ms[k]? = some m) : readPosition (markLows 0 ms ++ slots) k = .mark m := by
  have hfilter : (markLows 0 ms ++ slots).filter (inSpan k) = [markLow k m] := by
    have hmarks := markLows_inSpan 0 ms h
    rw [Nat.zero_add] at hmarks
    rw [List.filter_append, hmarks, List.filter_eq_nil_iff.2, List.append_nil]
    intro l hl hspan
    simp only [inSpan, Bool.and_eq_true, decide_eq_true_eq] at hspan
    have hstart := hslots l hl
    have hend := hspan.1
    rw [windowOpening_eq] at hend
    omega
  unfold readPosition
  rw [hfilter]
  simp only []
  rw [if_pos (inWindow_markLow k m), readLow_markLow]

theorem readPositions_markLows {slots : List Low} (hslots : ∀ l ∈ slots, 950 ≤ l.start) (hms : ms.length = 31) :
    readPositions (markLows 0 ms ++ slots) = ms.map PositionRead.mark := by
  refine List.ext_getElem (by simp [readPositions, Config.markCount, hms]) fun k hk hk' => ?_
  have hlt : k < 31 := by simpa [readPositions, Config.markCount] using hk
  simp only [readPositions, List.getElem_map, List.getElem_range]
  exact readPosition_markLows hslots hlt (List.getElem?_eq_getElem (by omega))

@[simp] theorem marksRead_mark (ms : List Mark) : marksRead (ms.map PositionRead.mark) = ms := by
  induction ms with
  | nil => rfl
  | cons m ms ih =>
    rw [List.map_cons]
    exact congrArg (m :: ·) ih

@[simp] theorem symbolErrorIn_mark (ms : List Mark) : symbolErrorIn (ms.map PositionRead.mark) = false := by
  simp [symbolErrorIn]

end

@[simp] theorem Mark.bit_ofBit (b : Bool) : (Mark.ofBit b).bit = b := by cases b <;> rfl

@[simp] theorem kindOfBits_bits (k : Kind) : kindOfBits k.bits = some k := by cases k <;> rfl

theorem FrameFields.bits_length (f : FrameFields) : f.bits.length = 23 := by simp [FrameFields.bits]

theorem SentFrame.marks_length (f : SentFrame) : f.marks.length = 31 := by
  simp [SentFrame.marks, FrameFields.bits_length, byteBits]

theorem drop_take_middle {α : Type} {pre mid post : List α} {n k : Nat} (hp : pre.length = n) (hm : mid.length = k) :
    ((pre ++ (mid ++ post)).drop n).take k = mid := by
  rw [List.drop_left' hp, List.take_left' hm]

/-- The marks of a sent frame carry its fields (R44, R174, R175). -/
theorem decodeMarks_sealFrame {f : FrameFields} (hh : f.holding ≤ 255) (hd : f.demand ≤ 255) :
    decodeMarks (sealFrame f).marks = some f := by
  have hbits : (sealFrame f).marks.map Mark.bit = f.bits ++ byteBits (crc8 f.bits) := by
    rw [SentFrame.marks, List.map_map]
    exact (List.map_congr_left fun b _ => Mark.bit_ofBit b).trans (List.map_id' _)
  have hcheck : BitVec.ofNat 8 (bitsValue (byteBits (crc8 f.bits))) = crc8 f.bits := by
    rw [byteBits, bitsValue_natBits (crc8 f.bits).isLt, BitVec.ofNat_toNat]
    simp
  have hkind : (f.bits ++ byteBits (crc8 f.bits)).take 3 = f.kind.bits := by
    rw [FrameFields.bits]
    simp only [List.append_assoc]
    exact List.take_left' (by simp)
  have hsender : ((f.bits ++ byteBits (crc8 f.bits)).drop 3).take 4 = natBits 4 f.sender.toNat := by
    conv_lhs => arg 2; arg 2; arg 1; rw [FrameFields.bits]
    simp only [List.append_assoc]
    exact drop_take_middle (by simp) (by simp)
  have hholding : ((f.bits ++ byteBits (crc8 f.bits)).drop 7).take 8 = natBits 8 f.holding := by
    conv_lhs => arg 2; arg 2; arg 1; rw [FrameFields.bits]
    rw [List.append_assoc, List.append_assoc]
    exact drop_take_middle (by simp) (by simp)
  have hdemand : ((f.bits ++ byteBits (crc8 f.bits)).drop 15).take 8 = natBits 8 f.demand := by
    conv_lhs => arg 2; arg 2; arg 1; rw [FrameFields.bits]
    rw [List.append_assoc]
    exact drop_take_middle (by simp) (by simp)
  have htake : (f.bits ++ byteBits (crc8 f.bits)).take Config.checkedMarks = f.bits := List.take_left' f.bits_length
  have hdrop : (f.bits ++ byteBits (crc8 f.bits)).drop Config.checkedMarks = byteBits (crc8 f.bits) :=
    List.drop_left' f.bits_length
  unfold decodeMarks
  simp only [hbits]
  rw [htake, hdrop, hcheck, if_neg (by simp), hkind, hsender, hholding, hdemand, kindOfBits_bits,
    bitsValue_natBits f.sender.isLt, bitsValue_natBits (by omega), bitsValue_natBits (by omega), BitVec.ofNat_toNat]
  simp

/-! ### A whole frame with its slots -/

section
variable (f : SentFrame) (ack void : Bool)

/-- The lows of the slots as they are driven (R67). -/
def slotLows : List Low := (if ack then [ackLow] else []) ++ (if void then [voidLow] else [])

theorem SentFrame.lows_eq : f.lows ack void = markLows 0 f.marks ++ slotLows ack void := by
  simp [SentFrame.lows, slotLows]

theorem slotLows_start : ∀ l ∈ slotLows ack void, 950 ≤ l.start := by
  cases ack <;> cases void <;> decide

theorem readPositions_lows : readPositions (f.lows ack void) = f.marks.map PositionRead.mark := by
  rw [SentFrame.lows_eq]
  exact readPositions_markLows (slotLows_start ack void) f.marks_length

/-- The mark lows of a frame are over before the slots (R66, R67). -/
theorem markLows_over {l : Low} (h : l ∈ markLows 0 f.marks) : 10 ≤ l.width ∧ l.width ≤ 20 ∧ l.start + l.width ≤ 945 := by
  obtain ⟨k, m, -, hk, rfl⟩ := mem_markLows h
  have hm := m.drive_bounds
  rw [f.marks_length] at hk
  simp only [markLow, windowOpening_eq]
  omega

theorem lineLowAt_append (l l' : List Low) (t : Nat) : lineLowAt (l ++ l') t = (lineLowAt l t || lineLowAt l' t) :=
  List.any_append

/-- At a slot's sample point the line carries that slot alone (R67). -/
theorem lineLowAt_lows {t : Nat} (ht : 945 ≤ t) : lineLowAt (f.lows ack void) t = lineLowAt (slotLows ack void) t := by
  have hmarks : lineLowAt (markLows 0 f.marks) t = false := by
    rw [lineLowAt, List.any_eq_false]
    intro l hl
    obtain ⟨-, -, hover⟩ := markLows_over f hl
    simp only [Bool.and_eq_true, decide_eq_true_eq]
    omega
  rw [SentFrame.lows_eq, lineLowAt_append, hmarks, Bool.false_or]

theorem lows_width {l : Low} (h : l ∈ f.lows ack void) : 10 ≤ l.width ∧ l.width ≤ 20 := by
  rw [SentFrame.lows_eq, List.mem_append] at h
  rcases h with h | h
  · obtain ⟨hw, hw', -⟩ := markLows_over f h
    exact ⟨hw, hw'⟩
  · revert h l
    cases ack <;> cases void <;> decide

/-- Two neighbouring lows of marks stand a wide high apart (R64, R66). -/
theorem markLows_separated (n : Nat) (ms : List Mark) :
    (markLows n ms).Pairwise fun x y => x.start + x.width + 5 ≤ y.start := by
  induction ms generalizing n with
  | nil => exact .nil
  | cons m ms ih =>
    rw [markLows_cons]
    refine List.pairwise_cons.2 ⟨fun l hl => ?_, ih (n + 1)⟩
    obtain ⟨k, m', hk, -, rfl⟩ := mem_markLows hl
    have hm := m.drive_bounds
    simp only [markLow, windowOpening_eq]
    omega

theorem lows_separated : (f.lows ack void).Pairwise fun x y => x.start + x.width + 5 ≤ y.start := by
  rw [SentFrame.lows_eq, List.pairwise_append]
  refine ⟨markLows_separated 0 f.marks, ?_, fun x hx y hy => ?_⟩
  · cases ack <;> cases void <;> decide
  · have hstart := slotLows_start ack void y hy
    obtain ⟨-, -, hover⟩ := markLows_over f hx
    omega

theorem filterLows_lows : filterLows (f.lows ack void) = f.lows ack void :=
  filterLows_separated (fun x hx => by have := (lows_width f ack void hx).1; omega) (lows_separated f ack void)

end

/-- Settles O32: the lows pass the filter, and each position and slot reads as it was driven. -/
theorem sentFrameIsReadBack : Obligations.SentFrameIsReadBack := by
  intro f ack void hh hd lows
  have hreads : readPositions lows = (sealFrame f).marks.map PositionRead.mark := readPositions_lows _ ack void
  refine ⟨filterLows_lows _ ack void, ?_, ?_, ?_, ?_, ?_⟩
  · rw [decodeFrame, hreads, symbolErrorIn_mark, if_neg Bool.false_ne_true, marksRead_mark, decodeMarks_sealFrame hh hd]
  · rw [hreads]
    exact firstMismatch_self _
  · refine (lineLowAt_lows _ ack void (by decide)).trans ?_
    cases ack <;> cases void <;> decide
  · refine (lineLowAt_lows _ ack void (by decide)).trans ?_
    cases ack <;> cases void <;> decide
  · rw [breakAmong, List.any_eq_false]
    intro l hl
    have hw := (lows_width _ ack void hl).2
    rw [beq_iff_eq, classify_eq_break_iff]
    omega

end Sys2Proof.Machine
end

section
/-! A sender reads its own positions (04 section 4.5, R77, R78; log 34): what a position is read as in the course of time,
and the first mismatch with the moment it is known. -/

namespace Sys2Proof.Machine

section
variable {lows : List Low} {k j M : Nat} {l : Low} {m : Mark} {read : PositionRead}

/-! ### One position -/

/-- The low that opens a position comes first of those in its span (R70). -/
theorem filter_inSpan_of_opens (h : opensPosition lows k l) :
    ∃ later, lows.filter (inSpan k) = l :: later := by
  obtain ⟨hfind, hwindow, hlead⟩ := h
  obtain ⟨hstart, before, behind, rfl, hbefore⟩ := List.find?_eq_some_iff_append.1 hfind
  have hspan : inSpan k l = true := by
    simp only [decide_eq_true_eq] at hstart
    simp only [inSpan, Bool.and_eq_true, Bool.or_eq_true, decide_eq_true_eq, beq_iff_eq]
    simp only [windowOpening_eq]
    omega
  refine ⟨behind.filter (inSpan k), ?_⟩
  rw [List.filter_append, List.filter_cons_of_pos hspan, List.filter_eq_nil_iff.2, List.nil_append]
  intro x hx hxspan
  have hearly := hbefore x hx
  have hx20 := fun h0 => hlead h0 x (by simp [hx])
  simp only [Bool.not_eq_true', decide_eq_false_iff_not] at hearly
  simp only [inSpan, Bool.and_eq_true, Bool.or_eq_true, decide_eq_true_eq, beq_iff_eq] at hxspan
  simp only [windowOpening_eq] at hxspan
  omega

theorem inWindow_of_opens (h : opensPosition lows k l) : inWindow k l = true := by
  obtain ⟨hfind, hwindow, -⟩ := h
  have hstart := List.find?_some hfind
  simp only [decide_eq_true_eq] at hstart
  simp only [inWindow, Bool.and_eq_true, decide_eq_true_eq]
  exact ⟨hstart, show l.start < 20 + 30 * k + 10 by omega⟩

/-- A low that opens a position and is no mark sent there is misread when its class is known (R77). -/
theorem misreading_of_opens (h : opensPosition lows k l) (hread : readLow l ≠ .mark m) :
    misreading lows k m = some (classKnown k l, readLow l) := by
  obtain ⟨later, hfilter⟩ := filter_inSpan_of_opens h
  rw [misreading, readings, hfilter]
  simp only [inWindow_of_opens h, if_true]
  exact List.find?_cons_of_pos (by simpa using hread)

/-- Where no low stands in a position's span it is misread when its window closes (R77). -/
theorem misreading_of_missing (h : ∀ x ∈ lows, x.start < 20 + 30 * k ∨ 50 + 30 * k ≤ x.start)
    (hlead : k = 0 → ∀ x ∈ lows, 20 ≤ x.start) (m : Mark) :
    misreading lows k m = some (30 + 30 * k, .symbolError) := by
  have hfilter : lows.filter (inSpan k) = [] := by
    rw [List.filter_eq_nil_iff]
    intro x hx hspan
    have hout := h x hx
    have h20 := fun h0 => hlead h0 x hx
    simp only [inSpan, Bool.and_eq_true, Bool.or_eq_true, decide_eq_true_eq, beq_iff_eq] at hspan
    simp only [windowOpening_eq] at hspan
    omega
  have hclosing : windowOpening k + Config.window = 30 + 30 * k := by rw [windowOpening_eq, Config.window]; omega
  rw [misreading, readings, hfilter, hclosing]
  rfl

/-- A position read as the mark sent is never misread on the way (R77). -/
theorem misreading_of_readPosition (h : readPosition lows k = .mark m) : misreading lows k m = none := by
  unfold readPosition at h
  split at h
  next l hfilter =>
    split at h
    next hw =>
      rw [misreading, readings, hfilter]
      simp [hw, h]
    · cases h
  · cases h

/-- What a later position is misread as is known no earlier than its lows begin, or its window closes (R77). -/
theorem le_of_misreading (hj : 0 < j) (hlows : ∀ x ∈ lows, windowOpening j ≤ x.start → M ≤ x.start)
    (hclose : M ≤ windowOpening j + 10) {p : Nat × PositionRead} (h : misreading lows j m = some p) : M ≤ p.1 := by
  have hmem := List.mem_of_find?_eq_some h
  have hspan : ∀ x ∈ lows.filter (inSpan j), M ≤ x.start ∧ x.start < windowOpening (j + 1) := by
    intro x hx
    obtain ⟨hx, hin⟩ := List.mem_filter.1 hx
    simp only [inSpan, Bool.and_eq_true, Bool.or_eq_true, decide_eq_true_eq, beq_iff_eq] at hin
    exact ⟨hlows x hx (hin.2.resolve_left (by omega)), hin.1⟩
  have hwindow : Config.window = 10 := rfl
  unfold readings at hmem
  dsimp only at hmem
  split at hmem
  · obtain rfl := List.mem_singleton.1 hmem
    exact hclose
  next l later hfilter =>
    rw [hfilter] at hspan
    rcases List.mem_cons.1 hmem with rfl | hlater
    · obtain ⟨hM, hend⟩ := hspan l (by simp)
      split
      · show M ≤ classKnown j l
        unfold classKnown
        split <;> omega
      · show M ≤ min l.start (windowOpening j + Config.window)
        omega
    · obtain ⟨x, hx, rfl⟩ := List.mem_map.1 hlater
      exact (hspan x (by simp [hx])).1

end

/-! ### The first mismatch (R77, R78) -/

section
variable {sent : List Mark} {lows : List Low} {k M now : Nat} {m : Mark} {read : PositionRead}

theorem firstMismatch_of_take {reads : List PositionRead} (hm : sent[k]? = some m) (hr : reads[k]? = some read)
    (hne : read ≠ .mark m) (hpre : reads.take k = (sent.take k).map PositionRead.mark) :
    firstMismatch 0 sent reads = some (mismatchAt k m read, k) := by
  obtain ⟨hk, hmk⟩ := List.getElem?_eq_some_iff.1 hm
  obtain ⟨hk', hrk⟩ := List.getElem?_eq_some_iff.1 hr
  have hsent : sent = sent.take k ++ m :: sent.drop (k + 1) := by
    rw [← hmk, ← List.drop_eq_getElem_cons hk, List.take_append_drop]
  have hreads : reads = (sent.take k).map PositionRead.mark ++ read :: reads.drop (k + 1) := by
    rw [← hpre, ← hrk, ← List.drop_eq_getElem_cons hk', List.take_append_drop]
  have hlen : (sent.take k).length = k := List.length_take_of_le hk.le
  have h := firstMismatch_at hne (sent.take k) (sent.drop (k + 1)) (reads.drop (k + 1))
  rw [← hsent, ← hreads, hlen] at h
  exact h

/-- Position `k`, where the mark `m` was sent, is misread as `read` from `M` on; the marks before it are read back, and
nothing behind it is misread earlier (R77). -/
def firstMisread (sent : List Mark) (lows : List Low) (k : Nat) (m : Mark) (M : Nat) (read : PositionRead) : Prop :=
  sent[k]? = some m ∧ misreading lows k m = some (M, read) ∧
  (∀ j < k, ∀ m', sent[j]? = some m' → misreading lows j m' = none) ∧
  (∀ j > k, ∀ m' p, sent[j]? = some m' → misreading lows j m' = some p → M ≤ p.1)

/-- The moment of the first mismatch is the earliest of all positions' (R77). -/
theorem mismatchMoment_of_first (h : firstMisread sent lows k m M read) : mismatchMoment sent lows = some M := by
  obtain ⟨hm, hat, hbefore, hafter⟩ := h
  have hmem : ∀ n, n ∈ (sent.mapIdx fun k m => (misreading lows k m).map Prod.fst).filterMap id ↔
      ∃ j m' p, sent[j]? = some m' ∧ misreading lows j m' = some p ∧ p.1 = n := by
    intro n
    simp only [List.mem_filterMap, List.mem_mapIdx, id_eq]
    constructor
    · rintro ⟨a, ⟨j, hj, ha⟩, rfl⟩
      obtain ⟨p, hp, rfl⟩ := Option.map_eq_some_iff.1 ha
      exact ⟨j, sent[j], p, List.getElem?_eq_getElem hj, hp, rfl⟩
    · rintro ⟨j, m', p, hj, hp, rfl⟩
      obtain ⟨hlt, hget⟩ := List.getElem?_eq_some_iff.1 hj
      exact ⟨_, ⟨j, hlt, rfl⟩, by rw [hget, hp]; rfl⟩
  rw [mismatchMoment, List.min?_eq_some_iff]
  refine ⟨(hmem M).2 ⟨k, m, _, hm, hat, rfl⟩, fun n hn => ?_⟩
  obtain ⟨j, m', p, hj, hp, rfl⟩ := (hmem n).1 hn
  rcases Nat.lt_trichotomy j k with hlt | rfl | hgt
  · rw [hbefore j hlt m' hj] at hp; cases hp
  · obtain rfl : m' = m := Option.some.inj (hj.symm.trans hm)
    obtain rfl : p = (M, read) := Option.some.inj (hp.symm.trans hat)
    exact le_rfl
  · exact hafter j hgt m' p hj hp

/-- The first misreading is the mismatch found from its moment on (R77, R78; log 34). -/
theorem mismatchFound_of_first (h : firstMisread sent lows k m M read) :
    mismatchFound sent now lows = if M ≤ now then some (mismatchAt k m read, k) else none := by
  have hmoment := mismatchMoment_of_first h
  obtain ⟨hm, hat, hbefore, -⟩ := h
  have hne : read ≠ .mark m := by simpa using List.find?_some hat
  have hread : (readBack sent M lows)[k]? = some read := by
    rw [readBack, List.getElem?_mapIdx, hm, Option.map_some, hat]
    simp
  have hpre : (readBack sent M lows).take k = (sent.take k).map PositionRead.mark := by
    refine List.ext_getElem? fun j => ?_
    rw [List.getElem?_take, List.getElem?_map, List.getElem?_take]
    split
    next hj =>
      rw [readBack, List.getElem?_mapIdx]
      cases hs : sent[j]? with
      | none => rfl
      | some m' => simp [hbefore j hj m' hs]
    · rfl
  rw [mismatchFound, hmoment]
  simp only [firstMismatch_of_take hm hread hne hpre]

end

/-! ### A sent frame's positions against its lows -/

section
variable {sent : SentFrame} {lows : List Low} {k : Nat} {l : Low} {m : Mark}

/-- The marks read back up to a position are not misread on the way (R77). -/
theorem misreading_of_readBack (hpre : (readPositions lows).take k = (sent.marks.take k).map PositionRead.mark) :
    ∀ j < k, ∀ m', sent.marks[j]? = some m' → misreading lows j m' = none := by
  intro j hj m' hm'
  refine misreading_of_readPosition ?_
  have hlt : j < Config.markCount := by
    obtain ⟨hlt, -⟩ := List.getElem?_eq_some_iff.1 hm'
    rwa [sent.marks_length] at hlt
  have hget := congrArg (fun reads => reads[j]?) hpre
  simp only [List.getElem?_take, if_pos hj, List.getElem?_map, hm', Option.map_some] at hget
  rw [readPositions, List.getElem?_map, List.getElem?_range hlt] at hget
  exact Option.some.inj hget

/-- What stands behind a low in order stands behind its end (log 10). -/
theorem end_le_of_later (hord : inOrder lows) (hl : l ∈ lows) {x : Low} (hx : x ∈ lows) (h : l.start < x.start) :
    l.start + l.width ≤ x.start := by
  obtain ⟨before, behind, rfl⟩ := List.append_of_mem hl
  obtain ⟨-, hbehind, hcross⟩ := List.pairwise_append.1 hord
  rcases List.mem_append.1 hx with hx | hx
  · have := hcross x hx l (by simp)
    omega
  · rcases List.mem_cons.1 hx with rfl | hx
    · omega
    · exact (List.pairwise_cons.1 hbehind).1 x hx

theorem mem_of_opens (h : opensPosition lows k l) : l ∈ lows ∧ 20 + 30 * k ≤ l.start ∧ l.start < 30 + 30 * k := by
  obtain ⟨hfind, hwindow, -⟩ := h
  have hstart := List.find?_some hfind
  simp only [decide_eq_true_eq] at hstart
  exact ⟨List.mem_of_find?_eq_some hfind, hstart, hwindow⟩

/-- A low of a mark's width, and of the other class than the one sent, is a mismatch from its rising edge on (R77, R78). -/
theorem firstMisread_of_narrow (hm : sent.marks[k]? = some m)
    (hpre : (readPositions lows).take k = (sent.marks.take k).map PositionRead.mark) (hord : inOrder lows)
    (hl : opensPosition lows k l) (hw : l.width < 25) (hread : readLow l ≠ .mark m) :
    firstMisread sent.marks lows k m (l.start + l.width) (readLow l) := by
  obtain ⟨hmem, hstart, hwindow⟩ := mem_of_opens hl
  have hknown : classKnown k l = l.start + l.width := if_pos hw
  refine ⟨hm, hknown ▸ misreading_of_opens hl hread, misreading_of_readBack hpre, ?_⟩
  intro j hj m' p _ hp
  refine le_of_misreading (by omega) (fun x hx hopen => ?_) ?_ hp
  · rw [windowOpening_eq] at hopen
    exact end_le_of_later hord hmem hx (by omega)
  · rw [windowOpening_eq]
    omega

theorem readLow_of_wide (hw : 25 ≤ l.width) : readLow l = .symbolError := by
  unfold readLow classify Config.filterWidth Config.longWidth Config.errorWidth Config.breakWidth
  rw [if_neg (by omega), if_neg (by omega), if_neg (by omega)]
  by_cases h : l.width < 60 <;> simp [h]

/-- A low wider than any mark is a mismatch once it has lasted 5T/2, or as the next position begins (R77, R78). -/
theorem firstMisread_of_wide (hm : sent.marks[k]? = some m)
    (hpre : (readPositions lows).take k = (sent.marks.take k).map PositionRead.mark)
    (hl : opensPosition lows k l) (hw : 25 ≤ l.width) :
    firstMisread sent.marks lows k m (min (l.start + 25) (50 + 30 * k)) .symbolError := by
  have hknown : classKnown k l = min (l.start + 25) (50 + 30 * k) := by
    have hwide : ¬ l.width < Config.errorWidth := Nat.not_lt.2 hw
    rw [classKnown, if_neg hwide, windowOpening_eq]
    show min (l.start + 25) _ = _
    congr 1
    omega
  have hat := misreading_of_opens (m := m) hl (by rw [readLow_of_wide hw]; simp)
  rw [hknown, readLow_of_wide hw] at hat
  refine ⟨hm, hat, misreading_of_readBack hpre, fun j hj m' p _ hp => ?_⟩
  refine le_of_misreading (by omega) (fun x hx hopen => ?_) ?_ hp
  · rw [windowOpening_eq] at hopen
    omega
  · rw [windowOpening_eq]
    omega

/-- A missing low is a mismatch when the window closes (R77, R78). -/
theorem firstMisread_of_missing (hm : sent.marks[k]? = some m)
    (hpre : (readPositions lows).take k = (sent.marks.take k).map PositionRead.mark)
    (h : ∀ x ∈ lows, x.start < 20 + 30 * k ∨ 50 + 30 * k ≤ x.start) (hlead : k = 0 → ∀ x ∈ lows, 20 ≤ x.start) :
    firstMisread sent.marks lows k m (30 + 30 * k) .symbolError := by
  refine ⟨hm, misreading_of_missing h hlead m, misreading_of_readBack hpre, fun j hj m' p _ hp => ?_⟩
  refine le_of_misreading (by omega) (fun x hx hopen => ?_) ?_ hp
  · rw [windowOpening_eq] at hopen
    omega
  · rw [windowOpening_eq]
    omega

end

end Sys2Proof.Machine
end

section
/-! The own frame (04 sections 4.4 and 4.5, 05 section 5.4): its record on the way, what its sender drives, its mismatches,
and the clash at its end. -/

namespace Sys2Proof.Machine

/-! ### What a sender drives (R66, R83) -/

section
variable {q : FrameRecord} {sent : SentFrame} {k : Nat} {m : Mark}

theorem drivesVoid_sender (hrole : q.role = .sender) (hlost : ∀ k, q.mismatch ≠ some (.lost, k)) :
    q.drivesVoid = q.mismatch.isSome := by
  unfold FrameRecord.drivesVoid
  rw [hrole]
  cases hm : q.mismatch with
  | none => rfl
  | some p =>
    obtain ⟨x, k⟩ := p
    cases x with
    | lost => exact absurd hm (hlost k)
    | clash => rfl
    | readback => rfl

/-- A sender drives its marks while it goes on, and the VOID slot behind a mismatch (R78, R79, R83). -/
theorem drives_sender (hrole : q.role = .sender) (hsent : q.sent = some sent)
    (hlost : ∀ k, q.mismatch ≠ some (.lost, k)) :
    q.drives = ((q.drivesOn && sent.drivesMark q.elapsed) ||
      (q.mismatch.isSome && decide (980 ≤ q.elapsed) && decide (q.elapsed < 1000))) := by
  have hack : q.drivesAck = false := by simp [FrameRecord.drivesAck, hrole]
  rw [FrameRecord.drives, hack, drivesVoid_sender hrole hlost]
  simp only [hrole, hsent, Bool.false_and, Bool.or_false]
  rfl

/-- Within a position its mark is driven from the position's start (R66). -/
theorem drivesMark_within {t : Nat} (hm : sent.marks[k]? = some m) (h : 20 + 30 * k ≤ t) (h' : t < 50 + 30 * k) :
    sent.drivesMark t = true ↔ t < 20 + 30 * k + if m = .long then 20 else 10 := by
  have hdiv : (t - Config.lead) / Config.markPitch = k := by
    show (t - 20) / 30 = k
    omega
  have hmod : (t - Config.lead) % Config.markPitch = t - 20 - 30 * k := by
    show (t - 20) % 30 = _
    omega
  have hlead : Config.lead ≤ t := by
    show 20 ≤ t
    omega
  rw [SentFrame.drivesMark, hdiv, hm]
  simp only [hlead, hmod, m.drive_eq, decide_true, Bool.true_and, decide_eq_true_eq]
  omega

/-- Outside the marks none is driven (R66). -/
theorem drivesMark_outside {t : Nat} (h : t < 20 ∨ 950 ≤ t) : sent.drivesMark t = false := by
  rcases h with h | h
  · have hlead : ¬ Config.lead ≤ t := Nat.not_le.2 h
    simp [SentFrame.drivesMark, hlead]
  · have hbeyond : sent.marks[(t - Config.lead) / Config.markPitch]? = none := by
      rw [List.getElem?_eq_none_iff, sent.marks_length]
      show 31 ≤ (t - 20) / 30
      omega
    rw [SentFrame.drivesMark, hbeyond, Bool.and_false]

/-- A sender drives on until the position of a mismatch is over (R78, R83). -/
theorem drivesOn_iff : q.drivesOn = true ↔
    q.mismatch = none ∨ ∃ x k, q.mismatch = some (x, k) ∧ q.elapsed < 50 + 30 * k := by
  unfold FrameRecord.drivesOn
  cases q.mismatch with
  | none => simp
  | some p =>
    obtain ⟨x, k⟩ := p
    have hopen : windowOpening (k + 1) = 50 + 30 * k := by rw [windowOpening_eq]; omega
    simp only [hopen, decide_eq_true_eq]
    simp

end

/-! ### The record on the way (R72, R76) -/

section
variable {s : State} {r : FrameRecord} {sent : SentFrame} {reached now : Nat} {raw lows : List Low}

/-- The sender's record at `now`, where arbitration is not lost (R72, R77). -/
def ownRecord (r : FrameRecord) (sent : SentFrame) (now : Nat) (lows : List Low) : FrameRecord :=
  { FrameRecord.sampled { r.assembled now lows with mismatch := r.mismatchBy sent now lows } now lows with elapsed := now }

/-- OWN_FRAME_OUTCOME before the own frame's end (R69, log 6). -/
theorem exec_ownFrame_way (hr : s.followed = some r) (hrole : r.role = .sender) (hsent : r.sent = some sent)
    (hreach : reaches r reached now raw lows) (hm : ∀ k, r.mismatchBy sent now lows ≠ some (.lost, k))
    (hway : now < 1010) :
    exec (.ownFrameOutcome ⟨reached, raw, .nothing⟩) s = .next { s with
      opening := none, frame := some (ownRecord r sent now lows), highTime := quietInFrame s r now lows
      lineLow := lowOnLine s r now lows } := by
  obtain ⟨rfl, rfl, hbreak⟩ := hreach
  refine congrArg Host.Outcome.next ?_
  have hframe : ¬ Config.frameEnd ≤ max r.elapsed reached := Nat.not_le.2 hway
  simp only [outcomeWith, ownFrameOutcome, hr, hrole, hsent, ownTo, hbreak, sendTo_of_not_lost hm, frameReaches_frame,
    sampled_role]
  rw [if_neg (by simp [FrameRecord.assembled, hrole]), if_neg hframe]
  exact frameReaches_eq hr _ _ _

theorem ownRecord_fields (hrole : r.role = .sender) (hsent : r.sent = some sent) :
    (ownRecord r sent now lows).role = .sender ∧ (ownRecord r sent now lows).sent = some sent ∧
    (ownRecord r sent now lows).elapsed = now ∧
    (ownRecord r sent now lows).mismatch = r.mismatchBy sent now lows ∧
    (ownRecord r sent now lows).marks = marksRead (readsSoFar now lows) := ⟨hrole, hsent, rfl, rfl, rfl⟩

end

/-! ### A mark of the other class (R65, R78) -/

section
variable {l : Low} {k : Nat} {m : Mark}

theorem readLow_of_long (h15 : 15 ≤ l.width) (h25 : l.width < 25) : readLow l = .mark .long := by
  have hc : classify l.width = some .longMark := by
    unfold classify Config.filterWidth Config.longWidth Config.errorWidth
    rw [if_neg (by omega), if_neg (by omega), if_pos h25]
  rw [readLow, hc]

theorem readLow_of_narrow (h : l.width < 15) : readLow l ≠ .mark .long := by
  unfold readLow classify Config.filterWidth Config.longWidth
  by_cases h5 : l.width < 5
  · simp [h5]
  · simp [h5, h]

theorem mismatchAt_symbolError (k : Nat) (m : Mark) : mismatchAt k m .symbolError = .readback := if_neg (by simp)

/-- A low of a mark's width that is of the other class is a clash in the payload, where a short mark was sent, and a
readback error where a long one was (R78). -/
theorem readLow_other (hw : l.width < 25) (hk : 7 ≤ k ∨ m = .long) (hm : m = .short ↔ 15 ≤ l.width) :
    readLow l ≠ .mark m ∧ mismatchAt k m (readLow l) = if m = .short then .clash else .readback := by
  cases m with
  | short =>
    have hlong := readLow_of_long (hm.1 rfl) hw
    have hpayload : ¬ k < Config.headerMarks := Nat.not_lt.2 (hk.resolve_right (by simp))
    rw [hlong, mismatchAt, if_pos ⟨rfl, rfl⟩, if_neg hpayload]
    exact ⟨by simp, rfl⟩
  | long =>
    have hnarrow : ¬ 15 ≤ l.width := fun h => by cases hm.2 h
    exact ⟨readLow_of_narrow (by omega), rfl⟩

end

/-! ### The clash at the frame's end (R80, R89, R150) -/

section
variable {s : State} {r : FrameRecord} {now : Nat} {lows : List Low} {out : FrameOutcome}

/-- The station behind the outbox's outcome at a known frame end (R73, R80, R126). -/
theorem joinCensus_takeOutcome_eq (out : FrameOutcome) :
    joinCensus s (takeOutcome out (atFrameEnd s r now lows)) = { atFrameEnd s r now lows with
      outbox := (joinCensus s (takeOutcome out (atFrameEnd s r now lows))).outbox
      latch := (joinCensus s (takeOutcome out (atFrameEnd s r now lows))).latch
      suppression := (joinCensus s (takeOutcome out (atFrameEnd s r now lows))).suppression
      censusRetry := (joinCensus s (takeOutcome out (atFrameEnd s r now lows))).censusRetry } := by
  rw [joinCensus_eq]
  apply State.ext <;> simp

theorem joinCensus_takeOutcome_ready (ho : s.OutputInv) (hr : s.RosterInv) :
    (joinCensus s (takeOutcome out (atFrameEnd s r now lows))).OutputInv ∧
    (joinCensus s (takeOutcome out (atFrameEnd s r now lows))).RosterInv := by
  rw [joinCensus_takeOutcome_eq]
  exact ⟨ho, hr⟩

theorem joinCensus_takeOutcome_mode : (joinCensus s (takeOutcome out (atFrameEnd s r now lows))).mode = s.mode := by
  rw [joinCensus_takeOutcome_eq]
  rfl

end

/-- Settles O37: the lines of R78 and R80, the record on the way with the moment of each mismatch, and the clash. -/
theorem outcomeIsTheFirstLineThatApplies : Obligations.OutcomeIsTheFirstLineThatApplies := by
  refine ⟨fun lone ack void => ?_, fun pre post m read rest h => firstMismatch_at h pre post rest,
    fun reached now raw lows r sent s hon hr hrole hsent hreach hlost => ⟨fun hway => ?_,
      fun f k hend hclash hf hc ho hroster => ?_⟩⟩
  · cases lone <;> cases ack <;> cases void <;> decide
  · obtain ⟨hrole', hsent', helapsed, hmis, hmarks⟩ := ownRecord_fields (sent := sent) (now := now) (lows := lows) hrole hsent
    have hlost' : ∀ k, (ownRecord r sent now lows).mismatch ≠ some (.lost, k) := hlost
    have hdriven : ∀ high low, ({ s with
        opening := none, frame := some (ownRecord r sent now lows), highTime := high, lineLow := low } :
        State).shareDriven = _ :=
      fun high low => (shareDriven_of_frame (t := { s with
        opening := none, frame := some (ownRecord r sent now lows), highTime := high, lineLow := low }) hon rfl rfl).trans
        (drives_sender hrole' hsent' hlost')
    refine ⟨_, ownRecord r sent now lows, exec_ownFrame_way hr hrole hsent hreach hlost hway, rfl, hrole', hsent',
      helapsed, hmis, hmarks, ?_, fun hnone h => ?_, fun k m hk hm h20 h50 => ?_, fun x k hx h50 => ?_,
      fun k m hm hnone hord hpre => ⟨fun l hl hw hk hclass => ?_, fun l hl hw => ?_, fun hmissing hlead => ?_⟩⟩
    · have hslots : (ownRecord r sent now lows).inSlots = true ↔
          (ownRecord r sent now lows).mismatch.isSome = true ∨ 950 ≤ now := by
        rw [FrameRecord.inSlots, Bool.or_eq_true, decide_eq_true_eq]
        exact Iff.rfl
      simp only [State.transmitter, hrole', if_true, hslots]
      rfl
    · rw [hdriven, helapsed, drivesMark_outside h, hnone]
      simp
    · have hon' : (ownRecord r sent now lows).drivesOn = true := drivesOn_iff.2 (hk.imp_right fun ⟨x, hx⟩ => ⟨x, k, hx, h50⟩)
      have hk31 : k < 31 := by
        obtain ⟨hlt, -⟩ := List.getElem?_eq_some_iff.1 hm
        rwa [sent.marks_length] at hlt
      have hlate : ¬ 980 ≤ now := by omega
      rw [hdriven, helapsed, hon']
      simp only [hlate, decide_false, Bool.and_false, Bool.false_and, Bool.or_false, Bool.true_and]
      exact drivesMark_within hm h20 h50
    · have hoff : (ownRecord r sent now lows).drivesOn = false := by
        rw [← Bool.not_eq_true, drivesOn_iff, hx, helapsed]
        rintro (h | ⟨y, j, h, hj⟩)
        · cases h
        · cases h
          omega
      rw [hdriven, helapsed, hoff, hx]
      simp
    all_goals
      have hfound : (ownRecord r sent now lows).mismatch = mismatchFound sent.marks now lows := by
        rw [hmis, FrameRecord.mismatchBy, hnone]
      rw [hfound]
    · obtain ⟨hne, hkind⟩ := readLow_other hw hk hclass
      rw [mismatchFound_of_first (firstMisread_of_narrow hm hpre hord hl hw hne), hkind]
      exact ⟨fun h => if_pos h, fun h => if_neg (Nat.not_le.2 h)⟩
    · rw [mismatchFound_of_first (firstMisread_of_wide hm hpre hl hw), mismatchAt_symbolError]
      exact ⟨fun h => if_pos h, fun h => if_neg (Nat.not_le.2 h)⟩
    · rw [mismatchFound_of_first (firstMisread_of_missing hm hpre hmissing hlead), mismatchAt_symbolError]
      exact ⟨fun h => if_pos h, fun h => if_neg (Nat.not_le.2 h)⟩
  · have hmis : (r.mismatchBy sent now lows).map Prod.fst = some .clash := by rw [hclash]; rfl
    have hexec := exec_ownFrame_end (out := .clash) hr hrole hsent hreach hend hlost (by rw [hmis]; rfl)
    obtain ⟨houtput, htable⟩ := joinCensus_takeOutcome_ready (r := r) (now := now) (lows := lows) (out := .clash) ho hroster
    have hmode := joinCensus_takeOutcome_mode (s := s) (r := r) (now := now) (lows := lows) (out := .clash)
    refine ⟨_, _, hexec, joinCensus_takeOutcome_eq .clash, fun hm => ?_, fun hm => ?_, fun hm => ?_⟩
    · rw [joinCensus_of_joined hm]
      exact countedFailure_congr (takeOutcome_countedFailure (s := atFrameEnd s r now lows) rfl hf hc) ⟨rfl, rfl, rfl⟩
        ⟨rfl, rfl, rfl, rfl⟩
    · exact enterFault_entered .clash (by rw [hmode]; exact hm) houtput htable
    · exact enterFault_of_fault (hmode.trans hm)

end Sys2Proof.Machine
end

section
/-! Arbitration lost (04 section 4.5, R77, R89): the outcome at the outbox, the loser's record of the winner's frame, and
the same loss found on the way of the own frame. -/

namespace Sys2Proof.Machine

section
variable {s : State} {r : FrameRecord} {sent : SentFrame} {k : Nat} {lows : List Low} {f : Flight}

/-- A lost intent returns uncounted, and no backoff is set (R89, R90). -/
theorem takeOutcome_lost (hf : s.outbox.inFlight = some f) (hc : f.cancelled = false) (ha : f.intent.attempts < 8) :
    ∃ o, takeOutcome .lost s = { s with outbox := o } ∧ o.inFlight = none ∧ o.backoff = s.outbox.backoff ∧
      ∃ j, o.get f.kind = some j ∧ j.attempts = f.intent.attempts := by
  unfold takeOutcome
  rw [hf]
  dsimp only
  rw [hc, if_neg Bool.false_ne_true, returnIntent_eq, if_pos ha]
  refine ⟨_, rfl, ?_, ?_, ?_⟩ <;> cases f.kind <;> simp [Outbox.put, Outbox.get, Outbox.returned]

/-- The loser's record of the winner's frame from the moment `known` on (R72, R77). -/
def loserRecord (s : State) (r : FrameRecord) (sent : SentFrame) (k known : Nat) : FrameRecord :=
  { r with
    role := if s.mode.listening then .receiver else .onlooker, elapsed := max r.elapsed known
    marks := sent.marks.take k ++ [.long], symbolError := false, verdict := none, sent := none
    mismatch := some (.lost, k) }

theorem loserRecord_role (s : State) (r : FrameRecord) (sent : SentFrame) (k known : Nat) :
    (loserRecord s r sent k known).role ≠ .sender := by
  unfold loserRecord
  dsimp only
  split <;> simp

/-- The station after a loss (R72, R77, log 6). -/
def afterLoss (s : State) (r : FrameRecord) (sent : SentFrame) (k known : Nat) (lows : List Low) (o : Outbox) : State :=
  { s with
    outbox := o, opening := none, frame := some (loserRecord s r sent k known)
    highTime := quietInFrame s r (max r.elapsed known) lows, lineLow := lowOnLine s r (max r.elapsed known) lows }

theorem loseArbitration_eq (hr : s.followed = some r) {o : Outbox} (ho : takeOutcome .lost s = { s with outbox := o })
    {known : Nat} (hknown : mismatchMoment sent.marks lows = some known) :
    loseArbitration r sent k lows s = afterLoss s r sent k known lows o := by
  rw [loseArbitration, ho, hknown]
  exact frameReaches_eq (s := { s with outbox := o }) hr _ _ _

end

/-- A follower's frame comes to the later of the moment told and its own (R69). -/
theorem heardTo_congr {t : State} {q : FrameRecord} (hq : t.followed = some q) {a b : Nat}
    (h : max q.elapsed a = max q.elapsed b) (lows : List Low) : heardTo a lows t = heardTo b lows t := by
  unfold heardTo
  rw [hq]
  simp only [h]

/-- Settles O31: the loss at its moment, at once and on the way of the own frame. -/
theorem loserBecomesReceiver : Obligations.LoserBecomesReceiver := by
  intro raw lows k l r sent f s hr hrole hsent hnone hlows hord hk hshort hpre hl h15 h25 hf hc ha known
  subst hlows
  have hlong := readLow_of_long h15 h25
  have hfirst := firstMisread_of_narrow hshort hpre hord hl h25 (by rw [hlong]; simp)
  have hkind : mismatchAt k .short (readLow l) = .lost := by
    rw [hlong, mismatchAt, if_pos ⟨rfl, rfl⟩]
    exact if_pos hk
  have hfound : ∀ now, known ≤ now → mismatchFound sent.marks now (filterLows raw) = some (.lost, k) := by
    intro now hnow
    rw [mismatchFound_of_first hfirst, if_pos hnow, hkind]
  have hbound : known ≤ Config.frameEnd := by
    obtain ⟨-, -, hstart⟩ := mem_of_opens hl
    show l.start + l.width ≤ 1010
    omega
  obtain ⟨o, hout, hflight, hback, hget⟩ := takeOutcome_lost hf hc ha
  have hlose := loseArbitration_eq (k := k) hr hout (mismatchMoment_of_first hfirst)
  have hrecord := loserRecord_role s r sent k known
  refine ⟨afterLoss s r sent k known (filterLows raw) o, loserRecord s r sent k known, congrArg Host.Outcome.next ?_,
    rfl, rfl, ?_, hflight, hback, hget, fun reached now hreach hnow => congrArg Host.Outcome.next ?_⟩
  · unfold lostArbitration
    rw [hr]
    simp only [hrole, hsent, hnone, hfound _ hbound]
    exact hlose
  · simp [State.sending, afterLoss, hrecord]
  · obtain ⟨hmax, -, hbreak⟩ := hreach
    have hby : r.mismatchBy sent now (filterLows raw) = some (.lost, k) := by
      rw [FrameRecord.mismatchBy, hnone]
      exact hfound now hnow
    have hsend : sendTo r sent now (filterLows raw) s = afterLoss s r sent k known (filterLows raw) o := by
      unfold sendTo
      rw [hby]
      exact hlose
    have htime : max (loserRecord s r sent k known).elapsed now = max (loserRecord s r sent k known).elapsed reached := by
      show max (max r.elapsed known) now = max (max r.elapsed known) reached
      omega
    have hto : ownTo r sent now (filterLows raw) s =
        heardTo now (filterLows raw) (afterLoss s r sent k known (filterLows raw) o) := by
      unfold ownTo
      rw [hbreak]
      simp only [hsend]
      exact if_pos hrecord
    simp only [outcomeWith, ownFrameOutcome, hr, hrole, hsent, ← hmax, hto]
    exact heardTo_congr rfl htime _

end Sys2Proof.Machine
end
